-- ==== Sys2Proof/Word.lean ====
section
/-! DEFINITION. The words of the machine and the fields of its instructions (spec 00 R4, R6; 30 R121 to R123).
Nothing is computed here: extensions, slices and byte order stand in Decode.lean and under Machine/. -/

namespace Sys2Proof

/-- A 32-bit word: general registers, HI, LO, pc, addresses, instructions (00 R4). -/
abbrev Word := BitVec 32

/-- A byte of memory (20 R70). -/
abbrev Byte := BitVec 8

/-- A 5-bit register field, and the number of a general or control register (10 R20, R32). -/
abbrev Reg := BitVec 5

/-- The 16-bit immediate of an I-type instruction (30 R122). -/
abbrev Imm16 := BitVec 16

/-- The 26-bit instruction index of J and JAL (30 R123). -/
abbrev Index26 := BitVec 26

/-- The 20-bit code of SYSCALL and BREAK (44 R240). -/
abbrev Code20 := BitVec 20

/-- A 20-bit page or frame number (10 R42). -/
abbrev Page := BitVec 20

end Sys2Proof
end

