-- ==== Sys2Proof/Syntax.lean ====
section
/-! DEFINITION. The 63 instructions of the opcode table (00 R2), one constructor each, operands in the order of the
assembler forms of 30 R137. Every operand has exactly the width of its field, so each term has an encoding. -/

namespace Sys2Proof

/-- An instruction. Field names: rs bits 25..21, rt 20..16, rd 15..11, shamt 10..6, imm 15..0, index 25..0, code 25..6
(30 R121 to R123). -/
inductive Instr where
  -- load and store, base register + offset (40 R160)
  | lb (rt : Reg) (imm : Imm16) (rs : Reg)
  | lbu (rt : Reg) (imm : Imm16) (rs : Reg)
  | sb (rt : Reg) (imm : Imm16) (rs : Reg)
  | lh (rt : Reg) (imm : Imm16) (rs : Reg)
  | lhu (rt : Reg) (imm : Imm16) (rs : Reg)
  | sh (rt : Reg) (imm : Imm16) (rs : Reg)
  | lw (rt : Reg) (imm : Imm16) (rs : Reg)
  | sw (rt : Reg) (imm : Imm16) (rs : Reg)
  | lwl (rt : Reg) (imm : Imm16) (rs : Reg)
  | lwr (rt : Reg) (imm : Imm16) (rs : Reg)
  | swl (rt : Reg) (imm : Imm16) (rs : Reg)
  | swr (rt : Reg) (imm : Imm16) (rs : Reg)
  -- ALU with an immediate (41 R180)
  | addi (rt rs : Reg) (imm : Imm16)
  | addiu (rt rs : Reg) (imm : Imm16)
  | slti (rt rs : Reg) (imm : Imm16)
  | sltiu (rt rs : Reg) (imm : Imm16)
  | andi (rt rs : Reg) (imm : Imm16)
  | ori (rt rs : Reg) (imm : Imm16)
  | xori (rt rs : Reg) (imm : Imm16)
  | lui (rt : Reg) (imm : Imm16)
  -- three-operand ALU (42 R192 to R201)
  | add (rd rs rt : Reg)
  | addu (rd rs rt : Reg)
  | sub (rd rs rt : Reg)
  | subu (rd rs rt : Reg)
  | slt (rd rs rt : Reg)
  | sltu (rd rs rt : Reg)
  | and (rd rs rt : Reg)
  | or (rd rs rt : Reg)
  | xor (rd rs rt : Reg)
  | nor (rd rs rt : Reg)
  -- shifts (42 R202): value in rt, count in shamt or rs
  | sll (rd rt : Reg) (shamt : BitVec 5)
  | srl (rd rt : Reg) (shamt : BitVec 5)
  | sra (rd rt : Reg) (shamt : BitVec 5)
  | sllv (rd rt rs : Reg)
  | srlv (rd rt rs : Reg)
  | srav (rd rt rs : Reg)
  -- multiply, divide, HI and LO moves (42 R209 to R217)
  | mult (rs rt : Reg)
  | multu (rs rt : Reg)
  | div (rs rt : Reg)
  | divu (rs rt : Reg)
  | mfhi (rd : Reg)
  | mthi (rs : Reg)
  | mflo (rd : Reg)
  | mtlo (rs : Reg)
  -- jumps (43 R221 to R224)
  | j (index : Index26)
  | jal (index : Index26)
  | jr (rs : Reg)
  | jalr (rd rs : Reg)
  -- branches (43 R225 to R233)
  | beq (rs rt : Reg) (imm : Imm16)
  | bne (rs rt : Reg) (imm : Imm16)
  | blez (rs : Reg) (imm : Imm16)
  | bgtz (rs : Reg) (imm : Imm16)
  | bltz (rs : Reg) (imm : Imm16)
  | bgez (rs : Reg) (imm : Imm16)
  | bltzal (rs : Reg) (imm : Imm16)
  | bgezal (rs : Reg) (imm : Imm16)
  -- exception instructions (44 R243, R244)
  | syscall (code : Code20)
  | brk (code : Code20)
  -- control instructions (45 R247 to R251); rd is a control register number
  | mfc0 (rt rd : Reg)
  | mtc0 (rt rd : Reg)
  | tlbr
  | tlbwi
  | rfe
deriving DecidableEq, Repr

/-- The 12 jump and branch instructions: those with a delay slot (43 R219). -/
def Instr.isJumpOrBranch : Instr → Bool
  | .j _ | .jal _ | .jr _ | .jalr _ _ => true
  | .beq _ _ _ | .bne _ _ _ | .blez _ _ | .bgtz _ _ => true
  | .bltz _ _ | .bgez _ _ | .bltzal _ _ | .bgezal _ _ => true
  | .lb _ _ _ | .lbu _ _ _ | .sb _ _ _ | .lh _ _ _ | .lhu _ _ _ | .sh _ _ _ => false
  | .lw _ _ _ | .sw _ _ _ | .lwl _ _ _ | .lwr _ _ _ | .swl _ _ _ | .swr _ _ _ => false
  | .addi _ _ _ | .addiu _ _ _ | .slti _ _ _ | .sltiu _ _ _ => false
  | .andi _ _ _ | .ori _ _ _ | .xori _ _ _ | .lui _ _ => false
  | .add _ _ _ | .addu _ _ _ | .sub _ _ _ | .subu _ _ _ | .slt _ _ _ | .sltu _ _ _ => false
  | .and _ _ _ | .or _ _ _ | .xor _ _ _ | .nor _ _ _ => false
  | .sll _ _ _ | .srl _ _ _ | .sra _ _ _ | .sllv _ _ _ | .srlv _ _ _ | .srav _ _ _ => false
  | .mult _ _ | .multu _ _ | .div _ _ | .divu _ _ => false
  | .mfhi _ | .mthi _ | .mflo _ | .mtlo _ => false
  | .syscall _ | .brk _ | .mfc0 _ _ | .mtc0 _ _ | .tlbr | .tlbwi | .rfe => false

/-- The five instructions that store to memory (40 R160). -/
def Instr.isStore : Instr → Bool
  | .sb _ _ _ | .sh _ _ _ | .sw _ _ _ | .swl _ _ _ | .swr _ _ _ => true
  | .lb _ _ _ | .lbu _ _ _ | .lh _ _ _ | .lhu _ _ _ | .lw _ _ _ | .lwl _ _ _ | .lwr _ _ _ => false
  | .addi _ _ _ | .addiu _ _ _ | .slti _ _ _ | .sltiu _ _ _ => false
  | .andi _ _ _ | .ori _ _ _ | .xori _ _ _ | .lui _ _ => false
  | .add _ _ _ | .addu _ _ _ | .sub _ _ _ | .subu _ _ _ | .slt _ _ _ | .sltu _ _ _ => false
  | .and _ _ _ | .or _ _ _ | .xor _ _ _ | .nor _ _ _ => false
  | .sll _ _ _ | .srl _ _ _ | .sra _ _ _ | .sllv _ _ _ | .srlv _ _ _ | .srav _ _ _ => false
  | .mult _ _ | .multu _ _ | .div _ _ | .divu _ _ => false
  | .mfhi _ | .mthi _ | .mflo _ | .mtlo _ => false
  | .j _ | .jal _ | .jr _ | .jalr _ _ => false
  | .beq _ _ _ | .bne _ _ _ | .blez _ _ | .bgtz _ _ => false
  | .bltz _ _ | .bgez _ _ | .bltzal _ _ | .bgezal _ _ => false
  | .syscall _ | .brk _ | .mfc0 _ _ | .mtc0 _ _ | .tlbr | .tlbwi | .rfe => false

end Sys2Proof
end

