-- ==== Sys2Proof/Decode.lean ====
section
/-! DEFINITION. The fields of a word (30 R121 to R123), the decoder of 30 R126 to R135, total and rejecting by name,
and after it the encoder, written from the word patterns of the opcode table. -/

namespace Sys2Proof

/-- Why a word is reserved (30 R133 to R135). Executing any of them is fault(reserved_instruction). -/
inductive DecodeError where
  /-- The opcode selects no row of Figure 2, or a coprocessor this machine lacks (30 R127, R134). -/
  | reservedOpcode
  /-- SPECIAL with a function code of no row of Figure 3 (30 R128). -/
  | reservedFunct
  /-- REGIMM with an rt field of no row of Figure 4 (30 R129). -/
  | reservedRegimm
  /-- COP0 with a pair of rs and funct that selects nothing (30 R130). -/
  | reservedCop0
  /-- A row is selected but one of its must-be-zero fields is not zero (30 R135). -/
  | fieldNotZero
deriving DecidableEq, Repr

/-! ### Fields (30 R121 to R123) -/

/-- Bits 31..26. -/
def opField (w : Word) : BitVec 6 := w.extractLsb' 26 6
/-- Bits 25..21. -/
def rsField (w : Word) : Reg := w.extractLsb' 21 5
/-- Bits 20..16. -/
def rtField (w : Word) : Reg := w.extractLsb' 16 5
/-- Bits 15..11. -/
def rdField (w : Word) : Reg := w.extractLsb' 11 5
/-- Bits 10..6. -/
def shamtField (w : Word) : BitVec 5 := w.extractLsb' 6 5
/-- Bits 5..0. -/
def functField (w : Word) : BitVec 6 := w.extractLsb' 0 6
/-- Bits 15..0. -/
def immField (w : Word) : Imm16 := w.extractLsb' 0 16
/-- Bits 25..0. -/
def indexField (w : Word) : Index26 := w.extractLsb' 0 26
/-- Bits 25..6 (44 R240). -/
def codeField (w : Word) : Code20 := w.extractLsb' 6 20

/-! ### The decoder -/

/-- The last step of 30 R126: the row's must-be-zero fields are all zero, or the word is reserved (R131, R135). -/
def ifZero (zero : Bool) (i : Instr) : Except DecodeError Instr :=
  if zero then .ok i else .error .fieldNotZero

/-- Opcode SPECIAL: selected by funct (30 R128, Figure 3), must-be-zero fields of R131. -/
def decodeSpecial (w : Word) : Except DecodeError Instr :=
  let rs := rsField w
  let rt := rtField w
  let rd := rdField w
  let sa := shamtField w
  match (functField w).toNat with
  | 0 => ifZero (rs == 0#5) (.sll rd rt sa)
  | 2 => ifZero (rs == 0#5) (.srl rd rt sa)
  | 3 => ifZero (rs == 0#5) (.sra rd rt sa)
  | 4 => ifZero (sa == 0#5) (.sllv rd rt rs)
  | 6 => ifZero (sa == 0#5) (.srlv rd rt rs)
  | 7 => ifZero (sa == 0#5) (.srav rd rt rs)
  | 8 => ifZero (rt == 0#5 && rd == 0#5 && sa == 0#5) (.jr rs)
  | 9 => ifZero (rt == 0#5 && sa == 0#5) (.jalr rd rs)
  | 12 => .ok (.syscall (codeField w))
  | 13 => .ok (.brk (codeField w))
  | 16 => ifZero (rs == 0#5 && rt == 0#5 && sa == 0#5) (.mfhi rd)
  | 17 => ifZero (rt == 0#5 && rd == 0#5 && sa == 0#5) (.mthi rs)
  | 18 => ifZero (rs == 0#5 && rt == 0#5 && sa == 0#5) (.mflo rd)
  | 19 => ifZero (rt == 0#5 && rd == 0#5 && sa == 0#5) (.mtlo rs)
  | 24 => ifZero (rd == 0#5 && sa == 0#5) (.mult rs rt)
  | 25 => ifZero (rd == 0#5 && sa == 0#5) (.multu rs rt)
  | 26 => ifZero (rd == 0#5 && sa == 0#5) (.div rs rt)
  | 27 => ifZero (rd == 0#5 && sa == 0#5) (.divu rs rt)
  | 32 => ifZero (sa == 0#5) (.add rd rs rt)
  | 33 => ifZero (sa == 0#5) (.addu rd rs rt)
  | 34 => ifZero (sa == 0#5) (.sub rd rs rt)
  | 35 => ifZero (sa == 0#5) (.subu rd rs rt)
  | 36 => ifZero (sa == 0#5) (.and rd rs rt)
  | 37 => ifZero (sa == 0#5) (.or rd rs rt)
  | 38 => ifZero (sa == 0#5) (.xor rd rs rt)
  | 39 => ifZero (sa == 0#5) (.nor rd rs rt)
  | 42 => ifZero (sa == 0#5) (.slt rd rs rt)
  | 43 => ifZero (sa == 0#5) (.sltu rd rs rt)
  | _ => .error .reservedFunct

/-- Opcode REGIMM: selected by rt (30 R129, Figure 4). -/
def decodeRegimm (w : Word) : Except DecodeError Instr :=
  match (rtField w).toNat with
  | 0 => .ok (.bltz (rsField w) (immField w))
  | 1 => .ok (.bgez (rsField w) (immField w))
  | 16 => .ok (.bltzal (rsField w) (immField w))
  | 17 => .ok (.bgezal (rsField w) (immField w))
  | _ => .error .reservedRegimm

/-- Opcode COP0: selected by rs and funct (30 R130), must-be-zero fields of R131. -/
def decodeCop0 (w : Word) : Except DecodeError Instr :=
  let rt := rtField w
  let rd := rdField w
  let sa := shamtField w
  match (rsField w).toNat, (functField w).toNat with
  | 0, 0 => ifZero (sa == 0#5) (.mfc0 rt rd)
  | 4, 0 => ifZero (sa == 0#5) (.mtc0 rt rd)
  | 16, 1 => ifZero (rt == 0#5 && rd == 0#5 && sa == 0#5) .tlbr
  | 16, 2 => ifZero (rt == 0#5 && rd == 0#5 && sa == 0#5) .tlbwi
  | 16, 16 => ifZero (rt == 0#5 && rd == 0#5 && sa == 0#5) .rfe
  | _, _ => .error .reservedCop0

/-- The decoding procedure of 30 R126 over Figure 2 (R127). -/
def decode (w : Word) : Except DecodeError Instr :=
  let rs := rsField w
  let rt := rtField w
  let imm := immField w
  match (opField w).toNat with
  | 0 => decodeSpecial w
  | 1 => decodeRegimm w
  | 2 => .ok (.j (indexField w))
  | 3 => .ok (.jal (indexField w))
  | 4 => .ok (.beq rs rt imm)
  | 5 => .ok (.bne rs rt imm)
  | 6 => ifZero (rt == 0#5) (.blez rs imm)
  | 7 => ifZero (rt == 0#5) (.bgtz rs imm)
  | 8 => .ok (.addi rt rs imm)
  | 9 => .ok (.addiu rt rs imm)
  | 10 => .ok (.slti rt rs imm)
  | 11 => .ok (.sltiu rt rs imm)
  | 12 => .ok (.andi rt rs imm)
  | 13 => .ok (.ori rt rs imm)
  | 14 => .ok (.xori rt rs imm)
  | 15 => ifZero (rs == 0#5) (.lui rt imm)
  | 16 => decodeCop0 w
  | 32 => .ok (.lb rt imm rs)
  | 33 => .ok (.lh rt imm rs)
  | 34 => .ok (.lwl rt imm rs)
  | 35 => .ok (.lw rt imm rs)
  | 36 => .ok (.lbu rt imm rs)
  | 37 => .ok (.lhu rt imm rs)
  | 38 => .ok (.lwr rt imm rs)
  | 40 => .ok (.sb rt imm rs)
  | 41 => .ok (.sh rt imm rs)
  | 42 => .ok (.swl rt imm rs)
  | 43 => .ok (.sw rt imm rs)
  | 46 => .ok (.swr rt imm rs)
  | _ => .error .reservedOpcode

/-! ### Byte order -/

/-- Bytes, the one at the lowest address first, as a word: the first byte is bits 7..0 (20 R72). -/
def littleEndian : List Byte → Word
  | [] => 0#32
  | b :: bs => (littleEndian bs <<< 8) ||| b.setWidth 32

/-- Byte k of a word: bits 8k + 7 .. 8k (20 R72). -/
def byteOf (v : Word) (k : Nat) : Byte := v.extractLsb' (8 * k) 8

/-- The low n bytes of a word, the one for the lowest address first (20 R72, R87). -/
def bytesOf (n : Nat) (v : Word) : List Byte := (List.range n).map (byteOf v)

/-- The instruction the decoder reads from an instruction whose bits are w, laid out as the four bytes memory holds,
the first at the lowest address (20 R72). Every row of the opcode table is one 32-bit word (30 R120). -/
def decodeTableWord (nbits w : Nat) : Option Instr :=
  match decode (littleEndian (bytesOf 4 (BitVec.ofNat 32 (w % 2 ^ nbits)))) with
  | .ok i => some i
  | .error _ => none

/-! ### The encoder -/

/-- An R-type word: opcode, rs, rt, rd, shamt, funct (30 R121). -/
def rType (op : BitVec 6) (rs rt rd : Reg) (sa : BitVec 5) (fn : BitVec 6) : Word :=
  op ++ (rs ++ (rt ++ (rd ++ (sa ++ fn))))

/-- An I-type word: opcode, rs, rt, imm (30 R122). -/
def iType (op : BitVec 6) (rs rt : Reg) (imm : Imm16) : Word := op ++ (rs ++ (rt ++ imm))

/-- A J-type word: opcode, index (30 R123). -/
def jType (op : BitVec 6) (index : Index26) : Word := op ++ index

/-- A SYSCALL or BREAK word: SPECIAL, code, funct (44 R240). -/
def codeType (code : Code20) (fn : BitVec 6) : Word := 0#6 ++ (code ++ fn)

/-- The word of an instruction, from the pattern of its row in the opcode table. -/
def encode : Instr → Word
  | .lb rt imm rs => iType 0b100000#6 rs rt imm
  | .lh rt imm rs => iType 0b100001#6 rs rt imm
  | .lwl rt imm rs => iType 0b100010#6 rs rt imm
  | .lw rt imm rs => iType 0b100011#6 rs rt imm
  | .lbu rt imm rs => iType 0b100100#6 rs rt imm
  | .lhu rt imm rs => iType 0b100101#6 rs rt imm
  | .lwr rt imm rs => iType 0b100110#6 rs rt imm
  | .sb rt imm rs => iType 0b101000#6 rs rt imm
  | .sh rt imm rs => iType 0b101001#6 rs rt imm
  | .swl rt imm rs => iType 0b101010#6 rs rt imm
  | .sw rt imm rs => iType 0b101011#6 rs rt imm
  | .swr rt imm rs => iType 0b101110#6 rs rt imm
  | .addi rt rs imm => iType 0b001000#6 rs rt imm
  | .addiu rt rs imm => iType 0b001001#6 rs rt imm
  | .slti rt rs imm => iType 0b001010#6 rs rt imm
  | .sltiu rt rs imm => iType 0b001011#6 rs rt imm
  | .andi rt rs imm => iType 0b001100#6 rs rt imm
  | .ori rt rs imm => iType 0b001101#6 rs rt imm
  | .xori rt rs imm => iType 0b001110#6 rs rt imm
  | .lui rt imm => iType 0b001111#6 0#5 rt imm
  | .add rd rs rt => rType 0#6 rs rt rd 0#5 0b100000#6
  | .addu rd rs rt => rType 0#6 rs rt rd 0#5 0b100001#6
  | .sub rd rs rt => rType 0#6 rs rt rd 0#5 0b100010#6
  | .subu rd rs rt => rType 0#6 rs rt rd 0#5 0b100011#6
  | .and rd rs rt => rType 0#6 rs rt rd 0#5 0b100100#6
  | .or rd rs rt => rType 0#6 rs rt rd 0#5 0b100101#6
  | .xor rd rs rt => rType 0#6 rs rt rd 0#5 0b100110#6
  | .nor rd rs rt => rType 0#6 rs rt rd 0#5 0b100111#6
  | .slt rd rs rt => rType 0#6 rs rt rd 0#5 0b101010#6
  | .sltu rd rs rt => rType 0#6 rs rt rd 0#5 0b101011#6
  | .sll rd rt sa => rType 0#6 0#5 rt rd sa 0b000000#6
  | .srl rd rt sa => rType 0#6 0#5 rt rd sa 0b000010#6
  | .sra rd rt sa => rType 0#6 0#5 rt rd sa 0b000011#6
  | .sllv rd rt rs => rType 0#6 rs rt rd 0#5 0b000100#6
  | .srlv rd rt rs => rType 0#6 rs rt rd 0#5 0b000110#6
  | .srav rd rt rs => rType 0#6 rs rt rd 0#5 0b000111#6
  | .mult rs rt => rType 0#6 rs rt 0#5 0#5 0b011000#6
  | .multu rs rt => rType 0#6 rs rt 0#5 0#5 0b011001#6
  | .div rs rt => rType 0#6 rs rt 0#5 0#5 0b011010#6
  | .divu rs rt => rType 0#6 rs rt 0#5 0#5 0b011011#6
  | .mfhi rd => rType 0#6 0#5 0#5 rd 0#5 0b010000#6
  | .mthi rs => rType 0#6 rs 0#5 0#5 0#5 0b010001#6
  | .mflo rd => rType 0#6 0#5 0#5 rd 0#5 0b010010#6
  | .mtlo rs => rType 0#6 rs 0#5 0#5 0#5 0b010011#6
  | .j index => jType 0b000010#6 index
  | .jal index => jType 0b000011#6 index
  | .jr rs => rType 0#6 rs 0#5 0#5 0#5 0b001000#6
  | .jalr rd rs => rType 0#6 rs 0#5 rd 0#5 0b001001#6
  | .beq rs rt imm => iType 0b000100#6 rs rt imm
  | .bne rs rt imm => iType 0b000101#6 rs rt imm
  | .blez rs imm => iType 0b000110#6 rs 0#5 imm
  | .bgtz rs imm => iType 0b000111#6 rs 0#5 imm
  | .bltz rs imm => iType 0b000001#6 rs 0b00000#5 imm
  | .bgez rs imm => iType 0b000001#6 rs 0b00001#5 imm
  | .bltzal rs imm => iType 0b000001#6 rs 0b10000#5 imm
  | .bgezal rs imm => iType 0b000001#6 rs 0b10001#5 imm
  | .syscall code => codeType code 0b001100#6
  | .brk code => codeType code 0b001101#6
  | .mfc0 rt rd => rType 0b010000#6 0b00000#5 rt rd 0#5 0#6
  | .mtc0 rt rd => rType 0b010000#6 0b00100#5 rt rd 0#5 0#6
  | .tlbr => rType 0b010000#6 0b10000#5 0#5 0#5 0#5 0b000001#6
  | .tlbwi => rType 0b010000#6 0b10000#5 0#5 0#5 0#5 0b000010#6
  | .rfe => rType 0b010000#6 0b10000#5 0#5 0#5 0#5 0b010000#6

/-! ### The opcode table -/

/-- A row of the opcode table: a word w is the row's instruction when w &&& mask = pattern (INDEX, opcode_table.json);
mask holds the must-be-zero bits too (30 R131, R135). -/
structure OpcodeRow where
  mnemonic : String
  pattern : Word
  mask : Word
deriving DecidableEq, Repr

/-- The load and store rows (40). -/
def loadStoreRows : List OpcodeRow :=
  [⟨"LB", 0x80000000#32, 0xFC000000#32⟩,
   ⟨"LH", 0x84000000#32, 0xFC000000#32⟩,
   ⟨"LWL", 0x88000000#32, 0xFC000000#32⟩,
   ⟨"LW", 0x8C000000#32, 0xFC000000#32⟩,
   ⟨"LBU", 0x90000000#32, 0xFC000000#32⟩,
   ⟨"LHU", 0x94000000#32, 0xFC000000#32⟩,
   ⟨"LWR", 0x98000000#32, 0xFC000000#32⟩,
   ⟨"SB", 0xA0000000#32, 0xFC000000#32⟩,
   ⟨"SH", 0xA4000000#32, 0xFC000000#32⟩,
   ⟨"SWL", 0xA8000000#32, 0xFC000000#32⟩,
   ⟨"SW", 0xAC000000#32, 0xFC000000#32⟩,
   ⟨"SWR", 0xB8000000#32, 0xFC000000#32⟩]

/-- The rows of ALU with an immediate (41). -/
def aluImmRows : List OpcodeRow :=
  [⟨"ADDI", 0x20000000#32, 0xFC000000#32⟩,
   ⟨"ADDIU", 0x24000000#32, 0xFC000000#32⟩,
   ⟨"SLTI", 0x28000000#32, 0xFC000000#32⟩,
   ⟨"SLTIU", 0x2C000000#32, 0xFC000000#32⟩,
   ⟨"ANDI", 0x30000000#32, 0xFC000000#32⟩,
   ⟨"ORI", 0x34000000#32, 0xFC000000#32⟩,
   ⟨"XORI", 0x38000000#32, 0xFC000000#32⟩,
   ⟨"LUI", 0x3C000000#32, 0xFFE00000#32⟩]

/-- The R-type ALU rows (42). -/
def aluRows : List OpcodeRow :=
  [⟨"ADD", 0x00000020#32, 0xFC0007FF#32⟩,
   ⟨"ADDU", 0x00000021#32, 0xFC0007FF#32⟩,
   ⟨"SUB", 0x00000022#32, 0xFC0007FF#32⟩,
   ⟨"SUBU", 0x00000023#32, 0xFC0007FF#32⟩,
   ⟨"AND", 0x00000024#32, 0xFC0007FF#32⟩,
   ⟨"OR", 0x00000025#32, 0xFC0007FF#32⟩,
   ⟨"XOR", 0x00000026#32, 0xFC0007FF#32⟩,
   ⟨"NOR", 0x00000027#32, 0xFC0007FF#32⟩,
   ⟨"SLT", 0x0000002A#32, 0xFC0007FF#32⟩,
   ⟨"SLTU", 0x0000002B#32, 0xFC0007FF#32⟩,
   ⟨"SLL", 0x00000000#32, 0xFFE0003F#32⟩,
   ⟨"SRL", 0x00000002#32, 0xFFE0003F#32⟩,
   ⟨"SRA", 0x00000003#32, 0xFFE0003F#32⟩,
   ⟨"SLLV", 0x00000004#32, 0xFC0007FF#32⟩,
   ⟨"SRLV", 0x00000006#32, 0xFC0007FF#32⟩,
   ⟨"SRAV", 0x00000007#32, 0xFC0007FF#32⟩,
   ⟨"MULT", 0x00000018#32, 0xFC00FFFF#32⟩,
   ⟨"MULTU", 0x00000019#32, 0xFC00FFFF#32⟩,
   ⟨"DIV", 0x0000001A#32, 0xFC00FFFF#32⟩,
   ⟨"DIVU", 0x0000001B#32, 0xFC00FFFF#32⟩,
   ⟨"MFHI", 0x00000010#32, 0xFFFF07FF#32⟩,
   ⟨"MFLO", 0x00000012#32, 0xFFFF07FF#32⟩,
   ⟨"MTHI", 0x00000011#32, 0xFC1FFFFF#32⟩,
   ⟨"MTLO", 0x00000013#32, 0xFC1FFFFF#32⟩]

/-- The jump and branch rows (43). -/
def jumpBranchRows : List OpcodeRow :=
  [⟨"J", 0x08000000#32, 0xFC000000#32⟩,
   ⟨"JAL", 0x0C000000#32, 0xFC000000#32⟩,
   ⟨"JR", 0x00000008#32, 0xFC1FFFFF#32⟩,
   ⟨"JALR", 0x00000009#32, 0xFC1F07FF#32⟩,
   ⟨"BEQ", 0x10000000#32, 0xFC000000#32⟩,
   ⟨"BNE", 0x14000000#32, 0xFC000000#32⟩,
   ⟨"BLEZ", 0x18000000#32, 0xFC1F0000#32⟩,
   ⟨"BGTZ", 0x1C000000#32, 0xFC1F0000#32⟩,
   ⟨"BLTZ", 0x04000000#32, 0xFC1F0000#32⟩,
   ⟨"BGEZ", 0x04010000#32, 0xFC1F0000#32⟩,
   ⟨"BLTZAL", 0x04100000#32, 0xFC1F0000#32⟩,
   ⟨"BGEZAL", 0x04110000#32, 0xFC1F0000#32⟩]

/-- The exception and control rows (44, 45). -/
def systemRows : List OpcodeRow :=
  [⟨"SYSCALL", 0x0000000C#32, 0xFC00003F#32⟩,
   ⟨"BREAK", 0x0000000D#32, 0xFC00003F#32⟩,
   ⟨"MFC0", 0x40000000#32, 0xFFE007FF#32⟩,
   ⟨"MTC0", 0x40800000#32, 0xFFE007FF#32⟩,
   ⟨"TLBR", 0x42000001#32, 0xFFFFFFFF#32⟩,
   ⟨"TLBWI", 0x42000002#32, 0xFFFFFFFF#32⟩,
   ⟨"RFE", 0x42000010#32, 0xFFFFFFFF#32⟩]

/-- The opcode table whole, transcribed from opcode_table.json independently of the decoder. -/
def opcodeRows : List OpcodeRow :=
  loadStoreRows ++ aluImmRows ++ aluRows ++ jumpBranchRows ++ systemRows

/-- w is the instruction of this row. -/
def OpcodeRow.selects (r : OpcodeRow) (w : Word) : Bool := w &&& r.mask == r.pattern

/-- The mnemonic of an instruction, as the opcode table spells it. -/
def Instr.mnemonic : Instr → String
  | .lb _ _ _ => "LB"
  | .lbu _ _ _ => "LBU"
  | .sb _ _ _ => "SB"
  | .lh _ _ _ => "LH"
  | .lhu _ _ _ => "LHU"
  | .sh _ _ _ => "SH"
  | .lw _ _ _ => "LW"
  | .sw _ _ _ => "SW"
  | .lwl _ _ _ => "LWL"
  | .lwr _ _ _ => "LWR"
  | .swl _ _ _ => "SWL"
  | .swr _ _ _ => "SWR"
  | .addi _ _ _ => "ADDI"
  | .addiu _ _ _ => "ADDIU"
  | .slti _ _ _ => "SLTI"
  | .sltiu _ _ _ => "SLTIU"
  | .andi _ _ _ => "ANDI"
  | .ori _ _ _ => "ORI"
  | .xori _ _ _ => "XORI"
  | .lui _ _ => "LUI"
  | .add _ _ _ => "ADD"
  | .addu _ _ _ => "ADDU"
  | .sub _ _ _ => "SUB"
  | .subu _ _ _ => "SUBU"
  | .slt _ _ _ => "SLT"
  | .sltu _ _ _ => "SLTU"
  | .and _ _ _ => "AND"
  | .or _ _ _ => "OR"
  | .xor _ _ _ => "XOR"
  | .nor _ _ _ => "NOR"
  | .sll _ _ _ => "SLL"
  | .srl _ _ _ => "SRL"
  | .sra _ _ _ => "SRA"
  | .sllv _ _ _ => "SLLV"
  | .srlv _ _ _ => "SRLV"
  | .srav _ _ _ => "SRAV"
  | .mult _ _ => "MULT"
  | .multu _ _ => "MULTU"
  | .div _ _ => "DIV"
  | .divu _ _ => "DIVU"
  | .mfhi _ => "MFHI"
  | .mthi _ => "MTHI"
  | .mflo _ => "MFLO"
  | .mtlo _ => "MTLO"
  | .j _ => "J"
  | .jal _ => "JAL"
  | .jr _ => "JR"
  | .jalr _ _ => "JALR"
  | .beq _ _ _ => "BEQ"
  | .bne _ _ _ => "BNE"
  | .blez _ _ => "BLEZ"
  | .bgtz _ _ => "BGTZ"
  | .bltz _ _ => "BLTZ"
  | .bgez _ _ => "BGEZ"
  | .bltzal _ _ => "BLTZAL"
  | .bgezal _ _ => "BGEZAL"
  | .syscall _ => "SYSCALL"
  | .brk _ => "BREAK"
  | .mfc0 _ _ => "MFC0"
  | .mtc0 _ _ => "MTC0"
  | .tlbr => "TLBR"
  | .tlbwi => "TLBWI"
  | .rfe => "RFE"

end Sys2Proof
end

