-- ==== Sys2Proof/Config.lean ====
section
/-! DEFINITION. The open parameters of 00 R5 as one record of plain data, and the machine's free values as opaque
constants. The record is carried in State and no step changes it, so a statement about every state is a statement
about every value of every parameter (log 3). -/

namespace Sys2Proof

/-- What ADD, ADDI and SUB do on signed overflow (41 R181, 42 R191). -/
inductive OverflowMode where
  | fault | trap | wrap
deriving DecidableEq, Repr

/-- What stands at a physical address that PHYS_MAP populates (20 R91). -/
inductive RegionKind where
  | ram | rom | io
deriving DecidableEq, Repr

/-- One region of PHYS_MAP: the physical bytes base .. base + size - 1 (20 R91). DESIGN CHOICE (log 4): a region is a
whole number of aligned words. -/
structure Region where
  base : Nat
  size : Nat
  kind : RegionKind
deriving DecidableEq, Repr

/-- The open parameters of 00 R5 that are data. MISALIGNED_DATA has one value only and is no field; DIV_CORNER and the
I/O oracle are the opaque constants below; IRQ is an input (State.pins, State.heldPins). -/
structure Config where
  /-- BRANCH_OFFSET_SHIFT (43 R220). -/
  branchOffsetShift : Nat
  /-- OVERFLOW_MODE (41 R181). -/
  overflowMode : OverflowMode
  /-- OVERFLOW_EXCCODE (41 R181). -/
  overflowExcCode : BitVec 5
  /-- SYSCALL_EXCCODE (44 R241). -/
  syscallExcCode : BitVec 5
  /-- BREAK_EXCCODE (44 R241). -/
  breakExcCode : BitVec 5
  /-- STRICT_CACHE (20 R98, R99). -/
  strictCache : Bool
  /-- PHYS_MAP (20 R91); the first region that holds an address says what is there. -/
  physMap : List Region
deriving DecidableEq, Repr

/-- The defaults of 00 R5; PHYS_MAP, which has none there, is the map of 95 section L3 (DESIGN CHOICE, unsafe: log 4). -/
def Config.default : Config where
  branchOffsetShift := 2
  overflowMode := .fault
  overflowExcCode := 12#5
  syscallExcCode := 8#5
  breakExcCode := 9#5
  strictCache := true
  physMap := [⟨0x00000000, 0x01000000, .ram⟩, ⟨0x1FC00000, 0x00010000, .rom⟩]

/-- The two divisions that have corners (42 R212, R213). -/
inductive DivOp where
  | div | divu
deriving DecidableEq, Repr

/-- Free value: HI after a division corner, DIV_CORNER of 42 R212 and R213 (log 8). Arguments: which division, the
dividend, the divisor, the draw. -/
opaque Config.divCornerHi : DivOp → Word → Word → Nat → Word

/-- Free value: LO after a division corner, DIV_CORNER of 42 R212 and R213 (log 8). -/
opaque Config.divCornerLo : DivOp → Word → Word → Nat → Word

/-- Free value: bits 30..14 of what MFC0 reads from Index (10 R33, R34; log 7). Argument: the draw. -/
opaque Config.indexHighDraw : Nat → BitVec 17

/-- Free value: bits 7..0 of what MFC0 reads from Index (10 R33, R34; log 7). Argument: the draw. -/
opaque Config.indexLowDraw : Nat → BitVec 8

/-- Free value: what a device answers to a read of an I/O register (20 R92; log 9). Argument: the draw. A narrow read
takes the low bytes. -/
opaque Config.ioAnswer : Nat → Word

end Sys2Proof
end

