-- ==== Sys2Proof/Machine/State.lean ====
section
/-! DEFINITION. The state of the machine (10 R20 to R46), its faults, and the state after reset. Plain data. -/

namespace Sys2Proof.Machine

/-- Physical memory as (address, byte) pairs in one canonical form, Memory.wf (10 R43). -/
abbrev Memory := List Host.Cell

/-- A set of physical word addresses (byte addresses with two low zero bits), strictly rising (20 R98, R99). -/
abbrev WordSet := List Nat

/-- The low half of a TLB entry, and control register 2: PFN in bits 31..12, V in bit 9 (10 R35). -/
structure EntryLo where
  pfn : Page
  v : Bool
deriving DecidableEq, Repr

/-- A TLB entry: the 41 meaningful bits of Figure 20 (10 R42). -/
structure TlbEntry where
  vpn : Page
  pfn : Page
  v : Bool
deriving DecidableEq, Repr

/-- SR, control register 12: the three-level stack of interrupt enables, IEo bit 4, IEp bit 2, IEc bit 0 (10 R38). -/
structure StatusReg where
  ieo : Bool
  iep : Bool
  iec : Bool
deriving DecidableEq, Repr

/-- Cause, control register 13: BD bit 31, ExcCode bits 6..2 (10 R40). -/
structure CauseReg where
  bd : Bool
  excCode : BitVec 5
deriving DecidableEq, Repr

/-- The level of the two input lines at one instruction boundary: reset (70 R300) and IRQ (60 R264). -/
structure Pins where
  reset : Bool
  irq : Bool
deriving DecidableEq, Repr

/-- One access to an I/O register (20 R92): a read of some bytes from an address, or a write of these bytes. -/
inductive IoAccess where
  | read (address : Nat) (bytes : Nat)
  | write (cells : List Host.Cell)
deriving DecidableEq, Repr

/-- The state of the machine. -/
structure State where
  /-- The open parameters of 00 R5; no step changes them. -/
  cfg : Config
  /-- General registers; read and written by State.gpr and State.setGpr alone, where register 0 is hard-wired
  (10 R20, R21). -/
  regs : Vector Word 32
  /-- HI (10 R24). -/
  hi : Word
  /-- LO (10 R24). -/
  lo : Word
  /-- The logical address of the current instruction (10 R25). -/
  pc : Word
  /-- The logical address of the instruction after it (10 R26). -/
  npc : Word
  /-- The current instruction is in a delay slot (10 R26). -/
  ds : Bool
  /-- Index.Index, bits 13..8 of control register 0 (10 R34). -/
  index : BitVec 6
  /-- EntryLo, control register 2 (10 R35). -/
  entryLo : EntryLo
  /-- BadVaddr, control register 9 (10 R36). -/
  badVaddr : Word
  /-- EntryHi.VPN, bits 31..12 of control register 10 (10 R37). -/
  entryHi : Page
  /-- SR, control register 12 (10 R38). -/
  sr : StatusReg
  /-- Cause, control register 13 (10 R40). -/
  cause : CauseReg
  /-- EPC, control register 14 (10 R41). -/
  epc : Word
  /-- The TLB (10 R42). -/
  tlb : Vector TlbEntry 64
  /-- Physical memory (10 R43). -/
  mem : Memory
  /-- W of 20 R98: the words stored to since reset. -/
  storedWords : WordSet
  /-- U of 20 R99: the words stored to through an uncached region since reset, not stored to through a cached one
  afterwards. -/
  uncachedWords : WordSet
  /-- The model's own: the input lines at the coming boundaries, the next one first (log 5). -/
  pins : List Pins
  /-- The model's own: the levels the input lines keep at every boundary after the listed ones; a line may stay up for
  ever (60 R265; log 5). -/
  heldPins : Pins
  /-- The model's own: the accesses to I/O registers so far, newest first (20 R92; log 9). -/
  io : List IoAccess
  /-- The model's own: how many free values have been taken (log 10). -/
  draws : Nat
deriving DecidableEq, Repr

/-- An exception of the hardware (60 R261); reset is not one of these (60 R266). -/
inductive Exc where
  | interrupt
  | tlbMiss (la : Word)
  | syscall
  | breakpoint
  /-- Only under OVERFLOW_MODE = trap (41 R181). -/
  | overflow
deriving DecidableEq, Repr

/-- The model-level faults: exactly the twelve names of 93 part A. None is a state or an exception of the hardware; at
each the sources do not say what the hardware does and the run stops. All are safe: a stop proves nothing about the
hardware (log 16). -/
inductive Fault where
  /-- The step, on a word the decoder rejects (30 R133 to R135). Safe. -/
  | reservedInstruction
  /-- LH, LHU, SH, LW, SW on an address that is not a multiple of the width (20 R74). Safe. -/
  | misalignedDataAccess
  /-- JR, JALR, and a taken branch under a BRANCH_OFFSET_SHIFT below 2 (10 R30, 43 R220). Safe. -/
  | misalignedJumpTarget
  /-- ADD, ADDI, SUB under OVERFLOW_MODE = fault (41 R181). Safe. -/
  | integerOverflow
  /-- A jump or branch with ds = 1 (43 R234). Safe. -/
  | branchInDelaySlot
  /-- MFC0, MTC0 naming a register that Figure 7 does not show (10 R33). Safe. -/
  | unknownControlRegister
  /-- MTC0 to BadVaddr, Cause or EPC (10 R33). Safe. -/
  | mtc0ToHardwareWrittenRegister
  /-- A fetch, load or store at a physical address PHYS_MAP does not populate (20 R91). Safe. -/
  | unpopulatedPhysicalAddress
  /-- A store to ROM (20 R91). Safe. -/
  | storeToRom
  /-- An I/O register accessed through a cached address (20 R92). Safe. -/
  | cachedIoAccess
  /-- Under STRICT_CACHE, a cached fetch of a word stored to since reset (20 R98). Safe. -/
  | ifetchAfterStore
  /-- Under STRICT_CACHE, a cached load of a word last stored to uncached (20 R99). Safe. -/
  | cachedLoadAfterUncachedStore
deriving DecidableEq, Repr

/-- Why a step has no meaning. -/
inductive Refusal where
  /-- Raised by exec's arm of an instruction that has no meaning yet; no arm raises it now. Safe. -/
  | notModelled (mnemonic : String)
deriving DecidableEq, Repr

/-- The outcomes of a step of this machine. -/
abbrev Out := Host.Outcome State Fault Refusal

/-- What a part of an instruction answers: a value and the state so far, an exception to take, or a fault. -/
inductive Res (α : Type) where
  | ok (v : α) (s : State)
  | raise (e : Exc)
  | stop (f : Fault)
deriving DecidableEq, Repr

/-- A translated address: where it goes, and whether it goes through the caches (20 R80). -/
structure PhysAddr where
  pa : Word
  cached : Bool
deriving DecidableEq, Repr

/-- The state after power-on reset (10 R46, 70 R300). pc, npc, ds and IEc are the spec's. DESIGN CHOICE (log 1): every
other register, and every TLB entry, for which the spec gives no value, is zero; unsafe. The parameters are the
defaults of Config.default (log 3, log 4); memory lists nothing (log 2). -/
def State.reset : State where
  cfg := Config.default
  regs := Vector.replicate 32 0#32
  hi := 0#32
  lo := 0#32
  pc := 0xBFC00000#32
  npc := 0xBFC00004#32
  ds := false
  index := 0#6
  entryLo := ⟨0#20, false⟩
  badVaddr := 0#32
  entryHi := 0#20
  sr := ⟨false, false, false⟩
  cause := ⟨false, 0#5⟩
  epc := 0#32
  tlb := Vector.replicate 64 ⟨0#20, 0#20, false⟩
  mem := []
  storedWords := []
  uncachedWords := []
  pins := []
  heldPins := ⟨false, false⟩
  io := []
  draws := 0

end Sys2Proof.Machine
end

