-- ==== Sys2Proof/Machine/Ops.lean ====
section
/-! DEFINITION. The named operations over registers, memory, the TLB and the status stack; taking an exception and
returning from one; how an instruction completes. Every meaning is written over these. -/

namespace Sys2Proof.Machine

/-! ### General registers (10 R20, R21) -/

/-- x[r]: register 0 is always zero (10 R21). -/
def State.gpr (s : State) (r : Reg) : Word :=
  if r = 0#5 then 0#32 else s.regs[r.toNat]'r.isLt

/-- x[r] <- v: a write to register 0 is discarded (10 R21). -/
def State.setGpr (s : State) (r : Reg) (v : Word) : State :=
  if r = 0#5 then s else { s with regs := s.regs.set r.toNat v r.isLt }

/-! ### Memory (10 R43) -/

/-- What an unlisted byte of memory reads as. DESIGN CHOICE, unsafe (log 2): the spec leaves RAM unspecified. -/
def Memory.unlisted : Byte := 0#8

/-- The byte at an address: that of the first entry for it. -/
def Memory.read : Memory → Nat → Byte
  | [], _ => Memory.unlisted
  | (k, v) :: m, a => if k = a then v else Memory.read m a

/-- Put an entry where a strictly rising list has its place. -/
def Memory.insert : Memory → Nat → Byte → Memory
  | [], a, b => [(a, b)]
  | (k, v) :: m, a, b => if a < k then (a, b) :: (k, v) :: m else (k, v) :: Memory.insert m a b

/-- Without any entry for an address. -/
def Memory.erase (m : Memory) (a : Nat) : Memory := m.filter fun c => c.1 != a

/-- One byte stored; the canonical form lists no byte that reads as unlisted. -/
def Memory.write (m : Memory) (a : Nat) (b : Byte) : Memory :=
  if b = Memory.unlisted then m.erase a else (m.erase a).insert a b

/-- The canonical form: addresses strictly rising, all physical, no entry equal to what an unlisted address reads as. -/
abbrev Memory.wf (m : Memory) : Prop :=
  m.Pairwise (fun c d => c.1 < d.1) ∧ ∀ c ∈ m, c.1 < 2 ^ 32 ∧ c.2 ≠ Memory.unlisted

/-- The n bytes from a physical address up, the lowest first. -/
def Memory.bytesAt (m : Memory) (pa : Word) (n : Nat) : List Byte :=
  (List.range n).map fun k => m.read (pa + BitVec.ofNat 32 k).toNat

/-- Bytes stored one after the other. -/
def Memory.writeCells : Memory → List Host.Cell → Memory
  | m, [] => m
  | m, c :: cs => Memory.writeCells (m.write c.1 c.2) cs

/-- Bytes paired with the physical addresses from pa up. -/
def cellsFrom (pa : Word) : List Byte → List Host.Cell
  | [] => []
  | b :: bs => (pa.toNat, b) :: cellsFrom (pa + 1#32) bs

/-! ### Sets of words (20 R98, R99) -/

/-- The aligned word that holds an address: its two low bits cleared. -/
def wordOf (a : Word) : Word := a &&& 0xFFFFFFFC#32

/-- Membership. -/
def WordSet.has (ws : WordSet) (a : Nat) : Bool := ws.any fun w => w == a

/-- Without a word. -/
def WordSet.erase (ws : WordSet) (a : Nat) : WordSet := ws.filter fun w => w != a

/-- Put a word where a strictly rising list has its place. -/
def WordSet.insert : WordSet → Nat → WordSet
  | [], a => [a]
  | w :: ws, a => if a < w then a :: w :: ws else w :: WordSet.insert ws a

/-- With a word, once. -/
def WordSet.add (ws : WordSet) (a : Nat) : WordSet := WordSet.insert (WordSet.erase ws a) a

/-! ### PHYS_MAP (20 R91) -/

/-- What stands at a physical address: the first region that holds its aligned word; none is unpopulated (20 R91). -/
def kindAt (c : Config) (pa : Word) : Option RegionKind :=
  (c.physMap.find? fun r => r.base ≤ (wordOf pa).toNat && (wordOf pa).toNat < r.base + r.size).map Region.kind

/-! ### Address translation (20 R75 to R80) -/

/-- The logical address is in kseg0 or kseg1, translated without the TLB (20 R76, R80). -/
def isUnmapped (la : Word) : Bool := la.extractLsb' 30 2 == 0b10#2

/-- The fixed translation: bits 31..29 cleared; kseg1 (bit 29 set) is uncached (20 R76, R80). -/
def unmappedAddr (la : Word) : PhysAddr :=
  ⟨0#3 ++ la.extractLsb' 0 29, !la.getLsbD 29⟩

/-- The TLB entry a mapped address selects: bits 17..12 are its index (20 R80 step 1). -/
def State.tlbEntryFor (s : State) (la : Word) : TlbEntry :=
  s.tlb[(la.extractLsb' 12 6).toNat]'(la.extractLsb' 12 6).isLt

/-- Translate (20 R80); none is a TLB miss. Fetches, loads and stores translate alike (20 R79). -/
def State.translate (s : State) (la : Word) : Option PhysAddr :=
  if isUnmapped la then
    some (unmappedAddr la)
  else
    let e := s.tlbEntryFor la
    if e.v && e.vpn == la.extractLsb' 12 20 then
      some ⟨e.pfn ++ la.extractLsb' 0 12, true⟩
    else
      none

/-! ### Physical accesses (20 R85 to R99) -/

/-- A read of n bytes of one aligned word at a physical address, little endian, zero-extended. RAM and ROM answer from
memory; under STRICT_CACHE a cached read of a word in blind is the fault given (20 R98, R99). An I/O register read
uncached answers a free value and is recorded; read cached it faults (20 R92; log 9). -/
def State.readPhys (s : State) (p : PhysAddr) (n : Nat) (blind : WordSet) (f : Fault) : Res Word :=
  match kindAt s.cfg p.pa with
  | none => .stop .unpopulatedPhysicalAddress
  | some .io =>
    if p.cached then .stop .cachedIoAccess
    else .ok (littleEndian (bytesOf n (Config.ioAnswer s.draws)))
      { s with draws := s.draws + 1, io := .read p.pa.toNat n :: s.io }
  | some .ram | some .rom =>
    if s.cfg.strictCache && p.cached && blind.has (wordOf p.pa).toNat then .stop f
    else .ok (littleEndian (s.mem.bytesAt p.pa n)) s

/-- Fetch (20 R85, R98). A miss is reported with the address of the instruction. -/
def State.fetch (s : State) : Res Word :=
  match s.translate s.pc with
  | none => .raise (.tlbMiss s.pc)
  | some p => s.readPhys p 4 s.storedWords .ifetchAfterStore

/-- MemRead (20 R86, R99), the value zero-extended; the caller has checked alignment. -/
def State.memRead (s : State) (la : Word) (n : Nat) : Res Word :=
  match s.translate la with
  | none => .raise (.tlbMiss la)
  | some p => s.readPhys p n s.uncachedWords .cachedLoadAfterUncachedStore

/-- The aligned word that holds la, translated as la: what LWL and LWR read (40 section 4). -/
def State.memReadWordOf (s : State) (la : Word) : Res Word :=
  match s.translate la with
  | none => .raise (.tlbMiss la)
  | some p => s.readPhys ⟨wordOf p.pa, p.cached⟩ 4 s.uncachedWords .cachedLoadAfterUncachedStore

/-- What a store does to W and U: every store adds its word to W; an uncached one adds it to U, a cached one removes
it from U (20 R98, R99). -/
def State.noteStore (s : State) (p : PhysAddr) : State :=
  { s with
    storedWords := s.storedWords.add (wordOf p.pa).toNat
    uncachedWords :=
      if p.cached then s.uncachedWords.erase (wordOf p.pa).toNat else s.uncachedWords.add (wordOf p.pa).toNat }

/-- One store access to cells of the aligned word that holds p (20 R87, R91, R92, R95). -/
def State.writePhys (s : State) (p : PhysAddr) (cells : List Host.Cell) : Res Unit :=
  match kindAt s.cfg p.pa with
  | none => .stop .unpopulatedPhysicalAddress
  | some .rom => .stop .storeToRom
  | some .io =>
    if p.cached then .stop .cachedIoAccess
    else .ok () { s.noteStore p with io := .write cells :: s.io }
  | some .ram => .ok () { s.noteStore p with mem := s.mem.writeCells cells }

/-- MemWrite (20 R87): the low n bytes of v at la and up; the caller has checked alignment. -/
def State.memWrite (s : State) (la : Word) (n : Nat) (v : Word) : Res Unit :=
  match s.translate la with
  | none => .raise (.tlbMiss la)
  | some p => s.writePhys p (cellsFrom p.pa (bytesOf n v))

/-! ### The interrupt-enable stack (10 R39) -/

/-- The push of trap entry: IEo <- IEp, IEp <- IEc, IEc <- 0 (60 R270 step 2). -/
def StatusReg.push (r : StatusReg) : StatusReg := ⟨r.iep, r.iec, false⟩

/-- The pop of RFE: IEc <- IEp, IEp <- IEo, IEo unchanged (45 R251; log 18). -/
def StatusReg.pop (r : StatusReg) : StatusReg := ⟨r.ieo, r.ieo, r.iep⟩

/-! ### Taking an exception and returning from one (60 R261, R270, R273) -/

/-- Cause.ExcCode of an exception (60 R261). -/
def excCode (c : Config) : Exc → BitVec 5
  | .interrupt => 0#5
  | .tlbMiss _ => 1#5
  | .syscall => c.syscallExcCode
  | .breakpoint => c.breakExcCode
  | .overflow => c.overflowExcCode

/-- BadVaddr after an exception: the missing address on a TLB miss, else its old value (60 R270 step 3). -/
def badVaddrAfter (old : Word) : Exc → Word
  | .tlbMiss la => la
  | .interrupt | .syscall | .breakpoint | .overflow => old

/-- Trap entry (60 R270): EPC and BD from pc and ds, the status stack pushed, ExcCode and BadVaddr set, control to
0xBFC00180. Nothing else changes. -/
def State.trapEntry (s : State) (e : Exc) : State :=
  { s with
    epc := if s.ds then s.pc - 4#32 else s.pc
    cause := ⟨s.ds, excCode s.cfg e⟩
    sr := s.sr.push
    badVaddr := badVaddrAfter s.badVaddr e
    pc := 0xBFC00180#32
    npc := 0xBFC00184#32
    ds := false }

/-- The return from exception as far as RFE does it: the status stack popped, nothing else (45 R251, 60 R273). -/
def State.returnFromException (s : State) : State := { s with sr := s.sr.pop }

/-- The reset event (70 R300): pc, npc, ds and IEc, nothing else of the machine; W and U, which count the stores since
reset, start again (20 R98, R99; log 6). -/
def State.resetEvent (s : State) : State :=
  { s with
    pc := 0xBFC00000#32
    npc := 0xBFC00004#32
    ds := false
    sr := { s.sr with iec := false }
    storedWords := []
    uncachedWords := [] }

/-! ### How an instruction completes (10 R27 steps 6 and 7) -/

/-- Step 7 of 10 R27 after an instruction that is not a jump or branch. -/
def State.advance (s : State) : State :=
  { s with pc := s.npc, npc := s.npc + 4#32, ds := false }

/-- Step 7 of 10 R27 after a jump or branch: to the delay slot, then to the target if there is one. -/
def State.advanceTo (s : State) (target : Option Word) : State :=
  { s with pc := s.npc, npc := target.getD (s.npc + 4#32), ds := true }

/-- A value read, then x[r] <- f of it. -/
def Res.intoGpr (res : Res Word) (r : Reg) (f : Word → Word) : Res Unit :=
  match res with
  | .ok v s => .ok () (s.setGpr r (f v))
  | .raise e => .raise e
  | .stop f => .stop f

/-- How an instruction begun in state s ends: done, it moves to the next instruction; raising, it has written nothing
and the exception is taken from s (10 R27 step 6, 60 R271); or the model's fault. -/
def State.complete (s : State) : Res Unit → Out
  | .ok _ t => .next t.advance
  | .raise e => .next (s.trapEntry e)
  | .stop f => .fault f

/-- An instruction that only writes a general register. -/
def State.writeBack (s : State) (r : Reg) (v : Word) : Out := .next (s.setGpr r v).advance

/-- A jump or branch with this target, if it transfers, and this link register and return address, if it links. In a
delay slot it faults (43 R234); a target that is not a multiple of 4 faults (10 R30, 43 R220, R223); else the link is
written and control goes to the delay slot (43 R219, R237). -/
def State.jump (s : State) (target : Option Word) (link : Option (Reg × Word)) : Out :=
  if s.ds then .fault .branchInDelaySlot
  else if (target.getD 0#32).extractLsb' 0 2 ≠ 0#2 then .fault .misalignedJumpTarget
  else
    match link with
    | none => .next (s.advanceTo target)
    | some (r, v) => .next ((s.setGpr r v).advanceTo target)

end Sys2Proof.Machine
end

