-- ==== Sys2Proof/Machine/Operands.lean ====
section
/-! DEFINITION. How the fields of an instruction become operands (30 R124): immediates, effective addresses, shift
counts, targets, link values. -/

namespace Sys2Proof.Machine

/-- sext_32(imm): the immediate of loads, stores, ADDI, ADDIU, SLTI, SLTIU and branches (30 R124). -/
def signedImm (imm : Imm16) : Word := imm.signExtend 32

/-- zext_32(imm): the immediate of ANDI, ORI, XORI (30 R124). -/
def unsignedImm (imm : Imm16) : Word := imm.setWidth 32

/-- imm ++ 0^16: the immediate of LUI (30 R124, 41 R189). -/
def upperImm (imm : Imm16) : Word := imm ++ 0#16

/-- ea = x[rs] + sext_32(imm), modulo 2^32 (40 R160, 20 R90). -/
def State.effectiveAddress (s : State) (rs : Reg) (imm : Imm16) : Word := s.gpr rs + signedImm imm

/-- The low two bits of an address: which byte of its word it is. -/
def byteInWord (a : Word) : Nat := (a.extractLsb' 0 2).toNat

/-- The shift count of SLLV, SRLV, SRAV: the low five bits of x[rs] (42 R202). -/
def State.shiftCount (s : State) (rs : Reg) : Nat := ((s.gpr rs).extractLsb' 0 5).toNat

/-- The target of a branch: the delay slot's address plus the scaled offset (43 R220). -/
def State.branchTarget (s : State) (imm : Imm16) : Word :=
  (s.pc + 4#32) + (signedImm imm <<< s.cfg.branchOffsetShift)

/-- The target of J and JAL: within the 256 MB region of the delay slot (43 R221). -/
def State.regionTarget (s : State) (index : Index26) : Word :=
  (s.pc + 4#32).extractLsb' 28 4 ++ (index ++ 0#2)

/-- The link value: the address of the instruction after the delay slot (43 R237). -/
def State.linkValue (s : State) : Word := s.pc + 8#32

end Sys2Proof.Machine
end

