-- ==== Sys2Proof/Machine/Flags.lean ====
section
/-! DEFINITION. The machine has no flags (10 R31). What other machines keep in flags is computed here: signed
overflow (41 R181, 42 R191), and comparisons, whose results go to a general register or decide a branch. -/

namespace Sys2Proof.Machine

/-- Signed overflow of a + b: the operands' signs agree and the sum's differs (41 R181). -/
def addOverflows (a b : Word) : Bool := a.msb == b.msb && (a + b).msb != a.msb

/-- Signed overflow of a - b: the operands' signs differ and the difference's differs from a's (42 R191). -/
def subOverflows (a b : Word) : Bool := a.msb != b.msb && (a - b).msb != a.msb

/-- What ADD, ADDI and SUB do with their result: write it, or on overflow what OVERFLOW_MODE says (41 R181). -/
def State.writeChecked (s : State) (overflows : Bool) (r : Reg) (v : Word) : Out :=
  if overflows then
    match s.cfg.overflowMode with
    | .fault => .fault .integerOverflow
    | .trap => .next (s.trapEntry .overflow)
    | .wrap => s.writeBack r v
  else s.writeBack r v

/-- 0x00000001 or 0x00000000 (41 R184). -/
def boolWord (b : Bool) : Word := if b then 1#32 else 0#32

/-- signed(a) < signed(b) (41 R184, 42 R196). -/
def signedLess (a b : Word) : Bool := decide (a.toInt < b.toInt)

/-- unsigned(a) < unsigned(b) (41 R185, 42 R197). -/
def unsignedLess (a b : Word) : Bool := decide (a.toNat < b.toNat)

/-- The value is less than zero: bit 31 is set (43 R225). -/
def isNegative (a : Word) : Bool := a.msb

end Sys2Proof.Machine
end

