-- ==== Sys2Proof/Machine/AluImm.lean ====
section
/-! DEFINITION. The eight ALU instructions with an immediate operand (41 R180 to R189). -/

namespace Sys2Proof.Machine

/-- ADDI (41 R182). -/
def execAddi (rt rs : Reg) (imm : Imm16) (s : State) : Out :=
  s.writeChecked (addOverflows (s.gpr rs) (signedImm imm)) rt (s.gpr rs + signedImm imm)

/-- ADDIU (41 R183). -/
def execAddiu (rt rs : Reg) (imm : Imm16) (s : State) : Out :=
  s.writeBack rt (s.gpr rs + signedImm imm)

/-- SLTI (41 R184). -/
def execSlti (rt rs : Reg) (imm : Imm16) (s : State) : Out :=
  s.writeBack rt (boolWord (signedLess (s.gpr rs) (signedImm imm)))

/-- SLTIU (41 R185). -/
def execSltiu (rt rs : Reg) (imm : Imm16) (s : State) : Out :=
  s.writeBack rt (boolWord (unsignedLess (s.gpr rs) (signedImm imm)))

/-- ANDI (41 R186). -/
def execAndi (rt rs : Reg) (imm : Imm16) (s : State) : Out :=
  s.writeBack rt (s.gpr rs &&& unsignedImm imm)

/-- ORI (41 R187). -/
def execOri (rt rs : Reg) (imm : Imm16) (s : State) : Out :=
  s.writeBack rt (s.gpr rs ||| unsignedImm imm)

/-- XORI (41 R188). -/
def execXori (rt rs : Reg) (imm : Imm16) (s : State) : Out :=
  s.writeBack rt (s.gpr rs ^^^ unsignedImm imm)

/-- LUI (41 R189). -/
def execLui (rt : Reg) (imm : Imm16) (s : State) : Out :=
  s.writeBack rt (upperImm imm)

end Sys2Proof.Machine
end

