-- ==== Sys2Proof/Machine/AluReg.lean ====
section
/-! DEFINITION. The R-type ALU instructions (42 R190 to R217): three-operand, shifts, multiply and divide, HI and LO
moves. -/

namespace Sys2Proof.Machine

/-! ### Three operands -/

/-- ADD (42 R192). -/
def execAdd (rd rs rt : Reg) (s : State) : Out :=
  s.writeChecked (addOverflows (s.gpr rs) (s.gpr rt)) rd (s.gpr rs + s.gpr rt)

/-- ADDU (42 R193). -/
def execAddu (rd rs rt : Reg) (s : State) : Out := s.writeBack rd (s.gpr rs + s.gpr rt)

/-- SUB (42 R194). -/
def execSub (rd rs rt : Reg) (s : State) : Out :=
  s.writeChecked (subOverflows (s.gpr rs) (s.gpr rt)) rd (s.gpr rs - s.gpr rt)

/-- SUBU (42 R195). -/
def execSubu (rd rs rt : Reg) (s : State) : Out := s.writeBack rd (s.gpr rs - s.gpr rt)

/-- SLT (42 R196). -/
def execSlt (rd rs rt : Reg) (s : State) : Out :=
  s.writeBack rd (boolWord (signedLess (s.gpr rs) (s.gpr rt)))

/-- SLTU (42 R197). -/
def execSltu (rd rs rt : Reg) (s : State) : Out :=
  s.writeBack rd (boolWord (unsignedLess (s.gpr rs) (s.gpr rt)))

/-- AND (42 R198). -/
def execAnd (rd rs rt : Reg) (s : State) : Out := s.writeBack rd (s.gpr rs &&& s.gpr rt)

/-- OR (42 R199). -/
def execOr (rd rs rt : Reg) (s : State) : Out := s.writeBack rd (s.gpr rs ||| s.gpr rt)

/-- XOR (42 R200). -/
def execXor (rd rs rt : Reg) (s : State) : Out := s.writeBack rd (s.gpr rs ^^^ s.gpr rt)

/-- NOR (42 R201). -/
def execNor (rd rs rt : Reg) (s : State) : Out := s.writeBack rd (~~~(s.gpr rs ||| s.gpr rt))

/-! ### Shifts (42 R202) -/

/-- SLL (42 R203). -/
def execSll (rd rt : Reg) (sa : BitVec 5) (s : State) : Out := s.writeBack rd (s.gpr rt <<< sa.toNat)

/-- SRL (42 R204). -/
def execSrl (rd rt : Reg) (sa : BitVec 5) (s : State) : Out := s.writeBack rd (s.gpr rt >>> sa.toNat)

/-- SRA (42 R205). -/
def execSra (rd rt : Reg) (sa : BitVec 5) (s : State) : Out := s.writeBack rd ((s.gpr rt).sshiftRight sa.toNat)

/-- SLLV (42 R206). -/
def execSllv (rd rt rs : Reg) (s : State) : Out := s.writeBack rd (s.gpr rt <<< s.shiftCount rs)

/-- SRLV (42 R207). -/
def execSrlv (rd rt rs : Reg) (s : State) : Out := s.writeBack rd (s.gpr rt >>> s.shiftCount rs)

/-- SRAV (42 R208). -/
def execSrav (rd rt rs : Reg) (s : State) : Out := s.writeBack rd ((s.gpr rt).sshiftRight (s.shiftCount rs))

/-! ### Multiply and divide (42 R209) -/

/-- An instruction that writes HI and LO alone. -/
def State.writeHiLo (s : State) (hi lo : Word) : Out := .next { s with hi := hi, lo := lo }.advance

/-- HI and LO from a 64-bit product: HI the high half, LO the low half (42 R210). -/
def State.writeProduct (s : State) (p : BitVec 64) : Out :=
  s.writeHiLo (p.extractLsb' 32 32) (p.extractLsb' 0 32)

/-- HI and LO after a division corner: free values, no exception (42 R212, R213; log 8). -/
def State.writeDivCorner (s : State) (op : DivOp) (n d : Word) : Out :=
  { s with draws := s.draws + 1 }.writeHiLo (Config.divCornerHi op n d s.draws) (Config.divCornerLo op n d s.draws)

/-- A signed division without a defined result: by zero, or -2^31 by -1 (42 R212). -/
def divIsCorner (n d : Word) : Bool := d == 0#32 || (n == 0x80000000#32 && d == 0xFFFFFFFF#32)

/-- MULT (42 R210). -/
def execMult (rs rt : Reg) (s : State) : Out :=
  s.writeProduct (BitVec.ofInt 64 ((s.gpr rs).toInt * (s.gpr rt).toInt))

/-- MULTU (42 R211). -/
def execMultu (rs rt : Reg) (s : State) : Out :=
  s.writeProduct (BitVec.ofNat 64 ((s.gpr rs).toNat * (s.gpr rt).toNat))

/-- DIV (42 R212): the quotient rounded toward zero in LO, the remainder in HI. -/
def execDiv (rs rt : Reg) (s : State) : Out :=
  let n := s.gpr rs
  let d := s.gpr rt
  if divIsCorner n d then s.writeDivCorner .div n d
  else s.writeHiLo (BitVec.ofInt 32 (n.toInt.tmod d.toInt)) (BitVec.ofInt 32 (n.toInt.tdiv d.toInt))

/-- DIVU (42 R213). -/
def execDivu (rs rt : Reg) (s : State) : Out :=
  let n := s.gpr rs
  let d := s.gpr rt
  if d == 0#32 then s.writeDivCorner .divu n d
  else s.writeHiLo (BitVec.ofNat 32 (n.toNat % d.toNat)) (BitVec.ofNat 32 (n.toNat / d.toNat))

/-- MFHI (42 R214). -/
def execMfhi (rd : Reg) (s : State) : Out := s.writeBack rd s.hi

/-- MTHI (42 R215). -/
def execMthi (rs : Reg) (s : State) : Out := s.writeHiLo (s.gpr rs) s.lo

/-- MFLO (42 R216). -/
def execMflo (rd : Reg) (s : State) : Out := s.writeBack rd s.lo

/-- MTLO (42 R217). -/
def execMtlo (rs : Reg) (s : State) : Out := s.writeHiLo s.hi (s.gpr rs)

end Sys2Proof.Machine
end

