-- ==== Sys2Proof/Machine/Control.lean ====
section
/-! DEFINITION. The control (coprocessor 0) instructions (45 R245 to R251). -/

namespace Sys2Proof.Machine

/-- One bit. -/
def bit (b : Bool) : BitVec 1 := BitVec.ofBool b

/-- Index as MFC0 reads it: bit 31 zero, the X bits free values (10 R34, 45 R246; log 7). -/
def State.indexWord (s : State) : Word :=
  0#1 ++ (Config.indexHighDraw s.draws ++ (s.index ++ Config.indexLowDraw s.draws))

/-- EntryLo as a word (10 R35). -/
def EntryLo.word (e : EntryLo) : Word := e.pfn ++ (0#2 ++ (bit e.v ++ 0#9))

/-- EntryHi as a word (10 R37). -/
def vpnWord (vpn : Page) : Word := vpn ++ 0#12

/-- SR as a word (10 R38). -/
def StatusReg.word (r : StatusReg) : Word := 0#27 ++ (bit r.ieo ++ (0#1 ++ (bit r.iep ++ (0#1 ++ bit r.iec))))

/-- Cause as a word (10 R40). -/
def CauseReg.word (c : CauseReg) : Word := bit c.bd ++ (0#24 ++ (c.excCode ++ 0#2))

/-- The MFC0 column of 45 R246. Reading Index takes a free value for its X bits. -/
def State.readControl (s : State) (rd : Reg) : Res Word :=
  match rd.toNat with
  | 0 => .ok s.indexWord { s with draws := s.draws + 1 }
  | 2 => .ok s.entryLo.word s
  | 9 => .ok s.badVaddr s
  | 10 => .ok (vpnWord s.entryHi) s
  | 12 => .ok s.sr.word s
  | 13 => .ok s.cause.word s
  | 14 => .ok s.epc s
  | _ => .stop .unknownControlRegister

/-- The MTC0 column of 45 R246: the named fields are written, the other bits of v ignored. -/
def State.writeControl (s : State) (rd : Reg) (v : Word) : Res Unit :=
  match rd.toNat with
  | 0 => .ok () { s with index := v.extractLsb' 8 6 }
  | 2 => .ok () { s with entryLo := ⟨v.extractLsb' 12 20, v.getLsbD 9⟩ }
  | 9 => .stop .mtc0ToHardwareWrittenRegister
  | 10 => .ok () { s with entryHi := v.extractLsb' 12 20 }
  | 12 => .ok () { s with sr := ⟨v.getLsbD 4, v.getLsbD 2, v.getLsbD 0⟩ }
  | 13 => .stop .mtc0ToHardwareWrittenRegister
  | 14 => .stop .mtc0ToHardwareWrittenRegister
  | _ => .stop .unknownControlRegister

/-- The TLB entry Index names, into EntryLo and EntryHi (45 R249). -/
def State.tlbRead (s : State) : State :=
  let e := s.tlb[s.index.toNat]'s.index.isLt
  { s with entryLo := ⟨e.pfn, e.v⟩, entryHi := e.vpn }

/-- EntryHi and EntryLo, into the TLB entry Index names, without any check (45 R250). -/
def State.tlbWrite (s : State) : State :=
  { s with tlb := s.tlb.set s.index.toNat ⟨s.entryHi, s.entryLo.pfn, s.entryLo.v⟩ s.index.isLt }

/-- MFC0 (45 R247): the register is checked even where rt = 0 discards the value. -/
def execMfc0 (rt rd : Reg) (s : State) : Out := s.complete ((s.readControl rd).intoGpr rt id)

/-- MTC0 (45 R248). -/
def execMtc0 (rt rd : Reg) (s : State) : Out := s.complete (s.writeControl rd (s.gpr rt))

/-- TLBR (45 R249). -/
def execTlbr (s : State) : Out := s.complete (.ok () s.tlbRead)

/-- TLBWI (45 R250). -/
def execTlbwi (s : State) : Out := s.complete (.ok () s.tlbWrite)

/-- RFE (45 R251): pops the status stack; it does not jump. -/
def execRfe (s : State) : Out := s.complete (.ok () s.returnFromException)

end Sys2Proof.Machine
end

