-- ==== Sys2Proof/Machine/ExcInstr.lean ====
section
/-! DEFINITION. The exception instructions (44 R240 to R244). The code is for the handler, which loads the word; the
hardware ignores it (44 R240). -/

namespace Sys2Proof.Machine

/-- SYSCALL (44 R243): takes the Syscall exception, whatever the code. -/
def execSyscall (_code : Code20) (s : State) : Out := s.complete (.raise .syscall)

/-- BREAK (44 R244): takes the Breakpoint exception, whatever the code. -/
def execBrk (_code : Code20) (s : State) : Out := s.complete (.raise .breakpoint)

end Sys2Proof.Machine
end

