-- ==== Sys2Proof/Machine/JumpBranch.lean ====
section
/-! DEFINITION. The twelve jump and branch instructions (43 R219 to R237). Registers are read before a link register is
written (43 R224, R232). -/

namespace Sys2Proof.Machine

/-- A conditional branch, linking if a link register is given, whether or not it is taken (43 R220, R225, R237). -/
def State.branch (s : State) (taken : Bool) (imm : Imm16) (link : Option Reg) : Out :=
  s.jump (if taken then some (s.branchTarget imm) else none) (link.map fun r => (r, s.linkValue))

/-- J (43 R221). -/
def execJ (index : Index26) (s : State) : Out := s.jump (some (s.regionTarget index)) none

/-- JAL (43 R222). -/
def execJal (index : Index26) (s : State) : Out :=
  s.jump (some (s.regionTarget index)) (some (31#5, s.linkValue))

/-- JR (43 R223). -/
def execJr (rs : Reg) (s : State) : Out := s.jump (some (s.gpr rs)) none

/-- JALR (43 R224). -/
def execJalr (rd rs : Reg) (s : State) : Out := s.jump (some (s.gpr rs)) (some (rd, s.linkValue))

/-- BEQ (43 R226). -/
def execBeq (rs rt : Reg) (imm : Imm16) (s : State) : Out := s.branch (s.gpr rs == s.gpr rt) imm none

/-- BNE (43 R227). -/
def execBne (rs rt : Reg) (imm : Imm16) (s : State) : Out := s.branch (s.gpr rs != s.gpr rt) imm none

/-- BLEZ (43 R228). -/
def execBlez (rs : Reg) (imm : Imm16) (s : State) : Out :=
  s.branch (isNegative (s.gpr rs) || s.gpr rs == 0#32) imm none

/-- BGTZ (43 R229). -/
def execBgtz (rs : Reg) (imm : Imm16) (s : State) : Out :=
  s.branch (!isNegative (s.gpr rs) && s.gpr rs != 0#32) imm none

/-- BLTZ (43 R230). -/
def execBltz (rs : Reg) (imm : Imm16) (s : State) : Out := s.branch (isNegative (s.gpr rs)) imm none

/-- BGEZ (43 R231). -/
def execBgez (rs : Reg) (imm : Imm16) (s : State) : Out := s.branch (!isNegative (s.gpr rs)) imm none

/-- BLTZAL (43 R232). -/
def execBltzal (rs : Reg) (imm : Imm16) (s : State) : Out :=
  s.branch (isNegative (s.gpr rs)) imm (some 31#5)

/-- BGEZAL (43 R233). -/
def execBgezal (rs : Reg) (imm : Imm16) (s : State) : Out :=
  s.branch (!isNegative (s.gpr rs)) imm (some 31#5)

end Sys2Proof.Machine
end

