-- ==== Sys2Proof/Machine/LoadStore.lean ====
section
/-! DEFINITION. The twelve load and store instructions (40 R160 to R173). Order of every one: effective address,
alignment, translation and access, then the write of the register (40 R160). -/

namespace Sys2Proof.Machine

/-- The address is no multiple of n, a power of two (20 R74). -/
def misaligned (ea : Word) (n : Nat) : Bool := byteInWord ea % n != 0

/-- An aligned load of n bytes, extended by ext (40 R162 to R168). -/
def State.loadInto (s : State) (ea : Word) (n : Nat) (rt : Reg) (ext : Word → Word) : Out :=
  if misaligned ea n then .fault .misalignedDataAccess
  else s.complete ((s.memRead ea n).intoGpr rt ext)

/-- An aligned store of the low n bytes of a register (40 R164, R167, R169). -/
def State.storeFrom (s : State) (ea : Word) (n : Nat) (rt : Reg) : Out :=
  if misaligned ea n then .fault .misalignedDataAccess
  else s.complete (s.memWrite ea n (s.gpr rt))

/-- Sign extension of the low byte (40 R162). -/
def sextByte (v : Word) : Word := (v.setWidth 8).signExtend 32

/-- Sign extension of the low halfword (40 R165). -/
def sextHalf (v : Word) : Word := (v.setWidth 16).signExtend 32

/-- LB (40 R162). -/
def execLb (rt : Reg) (imm : Imm16) (rs : Reg) (s : State) : Out :=
  s.loadInto (s.effectiveAddress rs imm) 1 rt sextByte

/-- LBU (40 R163). -/
def execLbu (rt : Reg) (imm : Imm16) (rs : Reg) (s : State) : Out :=
  s.loadInto (s.effectiveAddress rs imm) 1 rt id

/-- LH (40 R165). -/
def execLh (rt : Reg) (imm : Imm16) (rs : Reg) (s : State) : Out :=
  s.loadInto (s.effectiveAddress rs imm) 2 rt sextHalf

/-- LHU (40 R166). -/
def execLhu (rt : Reg) (imm : Imm16) (rs : Reg) (s : State) : Out :=
  s.loadInto (s.effectiveAddress rs imm) 2 rt id

/-- LW (40 R168). -/
def execLw (rt : Reg) (imm : Imm16) (rs : Reg) (s : State) : Out :=
  s.loadInto (s.effectiveAddress rs imm) 4 rt id

/-- SB (40 R164). -/
def execSb (rt : Reg) (imm : Imm16) (rs : Reg) (s : State) : Out :=
  s.storeFrom (s.effectiveAddress rs imm) 1 rt

/-- SH (40 R167). -/
def execSh (rt : Reg) (imm : Imm16) (rs : Reg) (s : State) : Out :=
  s.storeFrom (s.effectiveAddress rs imm) 2 rt

/-- SW (40 R169). -/
def execSw (rt : Reg) (imm : Imm16) (rs : Reg) (s : State) : Out :=
  s.storeFrom (s.effectiveAddress rs imm) 4 rt

/-- What LWL makes of the old register r and the aligned word w, b being the addressed byte (40 R170). -/
def mergeLeft (b : Nat) (r w : Word) : Word :=
  (w <<< (8 * (3 - b))) ||| (r &&& ((1#32 <<< (8 * (3 - b))) - 1#32))

/-- What LWR makes of the old register r and the aligned word w, b being the addressed byte (40 R171). -/
def mergeRight (b : Nat) (r w : Word) : Word :=
  (w >>> (8 * b)) ||| (r &&& ~~~(0xFFFFFFFF#32 >>> (8 * b)))

/-- LWL (40 R170). -/
def execLwl (rt : Reg) (imm : Imm16) (rs : Reg) (s : State) : Out :=
  let ea := s.effectiveAddress rs imm
  s.complete ((s.memReadWordOf ea).intoGpr rt (mergeLeft (byteInWord ea) (s.gpr rt)))

/-- LWR (40 R171). -/
def execLwr (rt : Reg) (imm : Imm16) (rs : Reg) (s : State) : Out :=
  let ea := s.effectiveAddress rs imm
  s.complete ((s.memReadWordOf ea).intoGpr rt (mergeRight (byteInWord ea) (s.gpr rt)))

/-- The bytes SWL stores: the most significant b + 1 bytes of v, from the start of the word up to the addressed byte
(40 R172). -/
def leftCells (pa : Word) (v : Word) : List Host.Cell :=
  cellsFrom (wordOf pa) ((bytesOf 4 v).drop (3 - byteInWord pa))

/-- The bytes SWR stores: the least significant 4 - b bytes of v, from the addressed byte up to the end of the word
(40 R173). -/
def rightCells (pa : Word) (v : Word) : List Host.Cell :=
  cellsFrom pa ((bytesOf 4 v).take (4 - byteInWord pa))

/-- One store access, of the cells that the translated address gives (40 R172, R173). -/
def State.storeCells (s : State) (ea : Word) (cells : Word → List Host.Cell) : Out :=
  s.complete
    (match s.translate ea with
    | none => .raise (.tlbMiss ea)
    | some p => s.writePhys p (cells p.pa))

/-- SWL (40 R172). -/
def execSwl (rt : Reg) (imm : Imm16) (rs : Reg) (s : State) : Out :=
  s.storeCells (s.effectiveAddress rs imm) fun pa => leftCells pa (s.gpr rt)

/-- SWR (40 R173). -/
def execSwr (rt : Reg) (imm : Imm16) (rs : Reg) (s : State) : Out :=
  s.storeCells (s.effectiveAddress rs imm) fun pa => rightCells pa (s.gpr rt)

end Sys2Proof.Machine
end

