-- ==== Sys2Proof/Machine/Cycle.lean ====
section
/-! DEFINITION. The instruction step (10 R27) with its inputs, and the placing of an instruction where the step fetches
it. Step.lean only calls these. -/

namespace Sys2Proof.Machine

/-- The input lines at this boundary: the next listed levels, or the held ones when none is listed (60 R264, R265;
log 5). -/
def State.pinsNow (s : State) : Pins := s.pins.headD s.heldPins

/-- The listed levels of this boundary are used up; held levels stay (60 R265). -/
def State.popPins (s : State) : State := { s with pins := s.pins.tail }

/-- Steps 3 to 7 of 10 R27 on a fetched word. -/
def State.runWord (s : State) (w : Word) : Out :=
  match decode w with
  | .ok i => exec i s
  | .error _ => .fault .reservedInstruction

/-- Steps 2 to 7 of 10 R27. -/
def State.fetchAndRun (s : State) : Out :=
  match s.fetch with
  | .ok w t => t.runWord w
  | .raise e => .next (s.trapEntry e)
  | .stop f => .fault f

/-- One step (10 R27), events in the order of 60 R268: reset, an enabled interrupt, then the instruction. -/
def State.cycle (s : State) : Out :=
  if s.pinsNow.reset then .next s.popPins.resetEvent
  else if s.pinsNow.irq && s.sr.iec then .next (s.popPins.trapEntry .interrupt)
  else s.popPins.fetchAndRun

/-! ### Placing an instruction (log 25) -/

/-- No reset and no interrupt at the next boundary. -/
def State.quietPins (s : State) : State :=
  if s.pinsNow.reset || (s.pinsNow.irq && s.sr.iec) then { s with pins := ⟨false, false⟩ :: s.pins.tail } else s

/-- The page of pc is mapped: as it is where it translates, else by an entry from the page to the frame of the same
number. -/
def State.mapPc (s : State) : State :=
  match s.translate s.pc with
  | some _ => s
  | none =>
    let page := s.pc.extractLsb' 12 20
    { s with tlb := s.tlb.set (s.pc.extractLsb' 12 6).toNat ⟨page, page, true⟩ (s.pc.extractLsb' 12 6).isLt }

/-- The four bytes of a word stored at a physical address, as a load of a program image stores them: readable there
if PHYS_MAP has no memory there, and not counted as stored to by the processor. -/
def State.placeAt (s : State) (pa : Word) (w : Word) : State :=
  { s with
    mem := s.mem.writeCells (cellsFrom pa (bytesOf 4 w))
    storedWords := s.storedWords.erase (wordOf pa).toNat
    uncachedWords := s.uncachedWords.erase (wordOf pa).toNat
    cfg :=
      match kindAt s.cfg pa with
      | some .ram | some .rom => s.cfg
      | some .io | none => { s.cfg with physMap := ⟨(wordOf pa).toNat, 4, .rom⟩ :: s.cfg.physMap } }

/-- The instruction whose bits are w, stored where the next step fetches it. -/
def State.placeAtPc (s : State) (nbits w : Nat) : State :=
  let t := s.quietPins.mapPc
  match t.translate t.pc with
  | some p => t.placeAt p.pa (BitVec.ofNat 32 (w % 2 ^ nbits))
  | none => t

end Sys2Proof.Machine
end

