-- ==== Sys2Proof/Machine/Step.lean ====
section
/-! DEFINITION. The step of the machine, and the state whose next step runs a given instruction. Both call Cycle.lean. -/

namespace Sys2Proof.Machine

/-- One step of the processor (10 R27). -/
def step (s : State) : Host.Outcome State Fault Refusal := s.cycle

/-- s with the instruction whose bits are w stored where step fetches its next instruction. It stands for a program
image placed in memory from outside (log 25); the next boundary is quiet, and pc's page is mapped and populated. -/
def State.withFetchWord (s : State) (nbits w : Nat) : State := s.placeAtPc nbits w

end Sys2Proof.Machine
end

