-- ==== Sys2Proof/Safety.lean ====
section
/-! DEFINITION. The vocabulary of the claims: what stays the same, what an instruction may write, what taking an
exception records, what a load or store needs, and the invariant of the machine. Written over the fields of State
and the one-byte read of memory, not over the operations the meanings are built from. -/

namespace Sys2Proof.Machine

/-! ### What stays the same -/

/-- Every general register reads as before. -/
def SameRegs (s t : State) : Prop := ∀ r, t.gpr r = s.gpr r

/-- HI and LO are unchanged. -/
def SameHiLo (s t : State) : Prop := t.hi = s.hi ∧ t.lo = s.lo

/-- The control registers and the TLB are unchanged. -/
def SameControl (s t : State) : Prop :=
  t.index = s.index ∧ t.entryLo = s.entryLo ∧ t.badVaddr = s.badVaddr ∧ t.entryHi = s.entryHi ∧ t.sr = s.sr ∧
    t.cause = s.cause ∧ t.epc = s.epc ∧ t.tlb = s.tlb

/-- Every byte of memory reads as before. -/
def SameBytes (s t : State) : Prop := ∀ a, t.mem.read a = s.mem.read a

/-- W and U of 20 R98 and R99 are unchanged. -/
def SameBlind (s t : State) : Prop := t.storedWords = s.storedWords ∧ t.uncachedWords = s.uncachedWords

/-- The parameters and the input levels to come, listed and held, are unchanged. -/
def SameInputs (s t : State) : Prop := t.cfg = s.cfg ∧ t.pins = s.pins ∧ t.heldPins = s.heldPins

/-- The parameters, the inputs, the record of device accesses and the count of free values are unchanged. -/
def SameOutside (s t : State) : Prop := SameInputs s t ∧ t.io = s.io ∧ t.draws = s.draws

/-- Memory and everything outside the registers is unchanged. -/
def SameMemory (s t : State) : Prop := SameBytes s t ∧ SameBlind s t ∧ SameOutside s t

/-! ### How an instruction ends -/

/-- Control went on in sequence (10 R27 step 7). -/
def WentOn (s t : State) : Prop := t.pc = s.npc ∧ t.npc = s.npc + 4#32 ∧ t.ds = false

/-- Control went to the delay slot, and goes to target after it (43 R219). -/
def WentToSlot (s : State) (target : Word) (t : State) : Prop := t.pc = s.npc ∧ t.npc = target ∧ t.ds = true

/-- Register r was written with v, or nothing if r is register 0 (10 R21); no other general register changed. -/
def WroteReg (s : State) (r : Reg) (v : Word) (t : State) : Prop :=
  ∀ q, t.gpr q = if q = r ∧ r ≠ 0#5 then v else s.gpr q

/-- The instruction wrote general register r and nothing else. -/
def RegOnly (s : State) (r : Reg) (v : Word) (t : State) : Prop :=
  WroteReg s r v t ∧ WentOn s t ∧ SameHiLo s t ∧ SameControl s t ∧ SameMemory s t

/-- The instruction wrote HI and LO and nothing else. -/
def HiLoOnly (s : State) (hi lo : Word) (t : State) : Prop :=
  t.hi = hi ∧ t.lo = lo ∧ WentOn s t ∧ SameRegs s t ∧ SameControl s t ∧ SameMemory s t

/-- The jump or branch sent control to its delay slot and then to target, and wrote nothing. -/
def SlotOnly (s : State) (target : Word) (t : State) : Prop :=
  WentToSlot s target t ∧ SameRegs s t ∧ SameHiLo s t ∧ SameControl s t ∧ SameMemory s t

/-- The jump or branch sent control to its delay slot and then to target, and wrote its link register only. -/
def LinkOnly (s : State) (target : Word) (link : Reg) (v : Word) (t : State) : Prop :=
  WentToSlot s target t ∧ WroteReg s link v t ∧ SameHiLo s t ∧ SameControl s t ∧ SameMemory s t

/-- Trap entry (60 R270) was taken from s, with this ExcCode and this BadVaddr after it; nothing else changed. -/
def TookTrap (s : State) (code : BitVec 5) (badVaddr : Word) (t : State) : Prop :=
  t.epc = (if s.ds then s.pc - 4#32 else s.pc) ∧ t.cause.bd = s.ds ∧ t.cause.excCode = code ∧
    t.sr.ieo = s.sr.iep ∧ t.sr.iep = s.sr.iec ∧ t.sr.iec = false ∧ t.badVaddr = badVaddr ∧
    t.pc = 0xBFC00180#32 ∧ t.npc = 0xBFC00184#32 ∧ t.ds = false ∧
    SameRegs s t ∧ SameHiLo s t ∧ t.index = s.index ∧ t.entryLo = s.entryLo ∧ t.entryHi = s.entryHi ∧
    t.tlb = s.tlb ∧ SameMemory s t

/-! ### What an access needs -/

/-- A load of la reads memory, RAM or ROM, at p: la translates to p, PHYS_MAP has memory there, and STRICT_CACHE does
not stop it (20 R80, R91, R99). -/
def ReadsMemoryAt (s : State) (la : Word) (p : PhysAddr) : Prop :=
  s.translate la = some p ∧ (kindAt s.cfg p.pa = some .ram ∨ kindAt s.cfg p.pa = some .rom) ∧
    (s.cfg.strictCache && p.cached && s.uncachedWords.has (wordOf p.pa).toNat) = false

/-- The fetch at pc reads memory at p (20 R80, R91, R98). -/
def FetchesMemoryAt (s : State) (p : PhysAddr) : Prop :=
  s.translate s.pc = some p ∧ (kindAt s.cfg p.pa = some .ram ∨ kindAt s.cfg p.pa = some .rom) ∧
    (s.cfg.strictCache && p.cached && s.storedWords.has (wordOf p.pa).toNat) = false

/-- A store to la goes to RAM at p (20 R80, R91). -/
def WritesRamAt (s : State) (la : Word) (p : PhysAddr) : Prop :=
  s.translate la = some p ∧ kindAt s.cfg p.pa = some .ram

/-- An access to la goes, uncached, to an I/O register at p (20 R92). -/
def ReachesIoAt (s : State) (la : Word) (p : PhysAddr) : Prop :=
  s.translate la = some p ∧ kindAt s.cfg p.pa = some .io ∧ p.cached = false

/-- The byte k places above a physical address. -/
def State.byteAt (s : State) (pa : Word) (k : Nat) : Byte := s.mem.read (pa + BitVec.ofNat 32 k).toNat

/-- The word at a physical address, little endian (20 R72). -/
def State.wordAt (s : State) (pa : Word) : Word :=
  s.byteAt pa 3 ++ (s.byteAt pa 2 ++ (s.byteAt pa 1 ++ s.byteAt pa 0))

/-- The bytes pa .. pa + n - 1 hold byte 0 .. n - 1 of f, and every other byte reads as before. -/
def WroteBytes (s : State) (pa : Word) (n : Nat) (f : Nat → Byte) (t : State) : Prop :=
  (∀ k, k < n → t.mem.read (pa + BitVec.ofNat 32 k).toNat = f k) ∧
    ∀ a, (∀ k, k < n → a ≠ (pa + BitVec.ofNat 32 k).toNat) → t.mem.read a = s.mem.read a

/-- What LWL makes of the aligned word w and the old register r at byte b of the word: the table of 40 R170. -/
def leftMerged (b : Nat) (w r : Word) : Word :=
  if b = 0 then w.extractLsb' 0 8 ++ r.extractLsb' 0 24
  else if b = 1 then w.extractLsb' 0 16 ++ r.extractLsb' 0 16
  else if b = 2 then w.extractLsb' 0 24 ++ r.extractLsb' 0 8
  else w

/-- What LWR makes of the aligned word w and the old register r at byte b of the word: the table of 40 R171. -/
def rightMerged (b : Nat) (w r : Word) : Word :=
  if b = 0 then w
  else if b = 1 then r.extractLsb' 24 8 ++ w.extractLsb' 8 24
  else if b = 2 then r.extractLsb' 16 16 ++ w.extractLsb' 16 16
  else r.extractLsb' 8 24 ++ w.extractLsb' 24 8

/-- What a store to p does to W and U (20 R98, R99). -/
def NotedStore (s : State) (p : PhysAddr) (t : State) : Prop :=
  (∀ w, t.storedWords.has w = (decide (w = (wordOf p.pa).toNat) || s.storedWords.has w)) ∧
    ∀ w, t.uncachedWords.has w =
      if w = (wordOf p.pa).toNat then !p.cached else s.uncachedWords.has w

/-- The store instruction wrote the bytes pa .. pa + n - 1 of RAM, noted the store, and changed nothing else. -/
def StoreOnly (s : State) (p : PhysAddr) (pa : Word) (n : Nat) (f : Nat → Byte) (t : State) : Prop :=
  WroteBytes s pa n f t ∧ NotedStore s p t ∧ WentOn s t ∧ SameRegs s t ∧ SameHiLo s t ∧ SameControl s t ∧
    SameOutside s t

/-! ### The invariant -/

/-- A multiple of 4 (10 R25). -/
def wordAligned (a : Word) : Prop := a.extractLsb' 0 2 = 0#2

/-- A set of words in its canonical form. -/
def WordSet.wf (ws : WordSet) : Prop := ws.Pairwise (· < ·) ∧ ∀ w ∈ ws, w < 2 ^ 32 ∧ w % 4 = 0

/-- What every step keeps. -/
structure Inv (s : State) : Prop where
  /-- The cell behind the hard-wired register is zero (10 R21). -/
  regZero : s.regs[0] = 0#32
  /-- The low two bits of pc are zero (10 R25). -/
  pcAligned : wordAligned s.pc
  /-- The low two bits of npc are zero (10 R26). -/
  npcAligned : wordAligned s.npc
  /-- The low two bits of EPC are zero (10 R41). -/
  epcAligned : wordAligned s.epc
  /-- Outside a delay slot npc is the sequential successor of pc (10 R28). -/
  sequential : s.ds = false → s.npc = s.pc + 4#32
  /-- Memory keeps its canonical form. -/
  memWf : s.mem.wf
  /-- W keeps its canonical form (20 R98). -/
  storedWf : s.storedWords.wf
  /-- U keeps its canonical form (20 R99). -/
  uncachedWf : s.uncachedWords.wf
  /-- A word stored to uncached is a word stored to (20 R98, R99). -/
  uncachedStored : ∀ w ∈ s.uncachedWords, w ∈ s.storedWords

end Sys2Proof.Machine
end

