-- ==== Sys2Proof/WellFormed.lean ====
section
/-! DEFINITION. Which instructions are well formed. Field widths are carried by the types of Syntax.lean, so what is
left to check is the control register that MFC0 and MTC0 name: an instruction that is not well formed decodes, and
its meaning is the fault the spec names (10 R33, 45 R246). -/

namespace Sys2Proof

/-- The indices of the control registers of Figure 7: Index, EntryLo, BadVaddr, EntryHi, SR, Cause, EPC (10 R32). -/
def controlRegisters : List Reg := [0, 2, 9, 10, 12, 13, 14]

/-- The control registers software writes by MTC0: Index, EntryLo, EntryHi, SR (10 R33). -/
def writableControlRegisters : List Reg := [0, 2, 10, 12]

/-- A well-formed instruction names a control register that exists, and one that MTC0 may write where it writes
(10 R33, 45 R246). -/
def Instr.wellFormed : Instr → Bool
  | .mfc0 _ rd => controlRegisters.contains rd
  | .mtc0 _ rd => writableControlRegisters.contains rd
  | .lb _ _ _ | .lbu _ _ _ | .sb _ _ _ | .lh _ _ _ | .lhu _ _ _ | .sh _ _ _ => true
  | .lw _ _ _ | .sw _ _ _ | .lwl _ _ _ | .lwr _ _ _ | .swl _ _ _ | .swr _ _ _ => true
  | .addi _ _ _ | .addiu _ _ _ | .slti _ _ _ | .sltiu _ _ _ => true
  | .andi _ _ _ | .ori _ _ _ | .xori _ _ _ | .lui _ _ => true
  | .add _ _ _ | .addu _ _ _ | .sub _ _ _ | .subu _ _ _ | .slt _ _ _ | .sltu _ _ _ => true
  | .and _ _ _ | .or _ _ _ | .xor _ _ _ | .nor _ _ _ => true
  | .sll _ _ _ | .srl _ _ _ | .sra _ _ _ | .sllv _ _ _ | .srlv _ _ _ | .srav _ _ _ => true
  | .mult _ _ | .multu _ _ | .div _ _ | .divu _ _ => true
  | .mfhi _ | .mthi _ | .mflo _ | .mtlo _ => true
  | .j _ | .jal _ | .jr _ | .jalr _ _ => true
  | .beq _ _ _ | .bne _ _ _ | .blez _ _ | .bgtz _ _ => true
  | .bltz _ _ | .bgez _ _ | .bltzal _ _ | .bgezal _ _ => true
  | .syscall _ | .brk _ | .tlbr | .tlbwi | .rfe => true

end Sys2Proof
end

