-- ==== Sys2Proof/Certificates/Slice0/Obligations.lean ====
section
/-! DEFINITION. The statements for the provers: what the rules of spec/ say the instructions and the machine do. A state s
is any state, so the parameters of 00 R5 (s.cfg) and the inputs (s.pins, s.heldPins) have any value; a premise names what is needed. -/

open Sys2Proof Sys2Proof.Machine

/-! ### Encoding -/

/-- 30 R126 to R131: the decoder reads back every instruction the encoder writes, with every operand value. -/
def Obligations.DecodeOfEncodeIsIdentity : Prop := ∀ i : Instr, decode (encode i) = .ok i

/-- 30 R126, R131, R135: a word the decoder accepts is the word the encoder writes for the instruction read, so no bit of
an accepted word is ignored and no instruction has two words. -/
def Obligations.EncodeOfDecodeIsIdentity : Prop := ∀ (w : Word) (i : Instr), decode w = .ok i → encode i = w

/-- 30 R126, R131, R133, R135: the decoder accepts exactly the words that a row of the opcode table selects, and reads
the instruction of that row. -/
def Obligations.DecoderAgreesWithOpcodeTable : Prop :=
  (∀ w : Word, (∃ i, decode w = .ok i) ↔ ∃ r ∈ opcodeRows, r.selects w = true) ∧
    ∀ (w : Word) (i : Instr), decode w = .ok i → ∀ r ∈ opcodeRows, r.selects w = true → r.mnemonic = i.mnemonic

/-- 95 L2.9 and the examples of 40 to 45: words written out in the spec decode to the instructions named there. -/
def Obligations.SpecWordsDecode : Prop :=
  decode 0x8062FFFF#32 = .ok (.lb 2 (-1) 3) ∧ decode 0x2128FFFF#32 = .ok (.addi 8 9 (-1)) ∧
    decode 0x00851020#32 = .ok (.add 2 4 5) ∧ decode 0x00A41004#32 = .ok (.sllv 2 4 5) ∧
    decode 0x0085001A#32 = .ok (.div 4 5) ∧ decode 0x0320F809#32 = .ok (.jalr 31 25) ∧
    decode 0x04110010#32 = .ok (.bgezal 0 16) ∧ decode 0x000001CD#32 = .ok (.brk 7) ∧
    decode 0x40886000#32 = .ok (.mtc0 8 12) ∧ decode 0x42000010#32 = .ok .rfe ∧
    decode 0x00851060#32 = .error .fieldNotZero ∧ decode 0x04020000#32 = .error .reservedRegimm

/-! ### The step -/

/-- 10 R27: where no reset and no enabled interrupt is signalled and the word that memory holds at pc decodes to i, the
step runs i. (The model's own: the levels of this boundary are used up, log 5.) -/
def Obligations.StepRunsTheDecodedInstruction : Prop :=
  ∀ (s : State) (p : PhysAddr) (i : Instr), s.pinsNow.reset = false → (s.pinsNow.irq && s.sr.iec) = false →
    FetchesMemoryAt s p → decode (s.wordAt p.pa) = .ok i → step s = exec i { s with pins := s.pins.tail }

/-- 30 R133, R134, R135: a fetched word that no row of the opcode table selects stops the step with
fault(reserved_instruction). -/
def Obligations.ReservedWordStops : Prop :=
  ∀ (s : State) (p : PhysAddr), s.pinsNow.reset = false → (s.pinsNow.irq && s.sr.iec) = false → FetchesMemoryAt s p →
    (∀ r ∈ opcodeRows, r.selects (s.wordAt p.pa) = false) → step s = .fault .reservedInstruction

/-- 60 R263, R264, R265, R268, R270: where no reset is signalled, an interrupt is taken before the instruction, whatever is
at pc, if it is signalled while IEc is 1: ExcCode 0, BadVaddr unchanged; and only then: while IEc is 0 the level of the
line makes no difference to the step. A line that is held up is taken again at once: after the RFE in the delay slot of a
return to EPC, where it restores IEc to 1, the next step takes the interrupt with the same EPC. That the level is sampled
at a boundary, without a latch, is the spec's decision D19 (log 5), that it comes before the instruction D20 (log 19). (The
first clause leaves out which listed levels are still to come.) -/
def Obligations.InterruptNeedsAnEnable : Prop :=
  (∀ s : State, s.pinsNow.reset = false → s.pinsNow.irq = true → s.sr.iec = true →
      ∃ t, step s = .next t ∧ TookTrap s 0 s.badVaddr { t with pins := s.pins }) ∧
    (∀ s : State, s.sr.iec = false → step s = step { s with pins := ⟨s.pinsNow.reset, false⟩ :: s.pins.tail }) ∧
    ∀ s t : State, s.pins = [] → s.heldPins = ⟨false, true⟩ → s.ds = true → s.npc = s.epc → s.sr.iep = true →
      exec .rfe s = .next t → ∃ u, step t = .next u ∧ TookTrap t 0 s.badVaddr u ∧ u.epc = s.epc

/-- 70 R300: the reset signal, whatever else is signalled, sets pc, npc, ds and IEc, and changes no other register, no TLB
entry and no byte of memory. -/
def Obligations.ResetSignalSetsFourItems : Prop :=
  ∀ s : State, s.pinsNow.reset = true →
    ∃ t, step s = .next t ∧ t.pc = 0xBFC00000 ∧ t.npc = 0xBFC00004 ∧ t.ds = false ∧ t.sr.iec = false ∧
      t.sr.iep = s.sr.iep ∧ t.sr.ieo = s.sr.ieo ∧ SameRegs s t ∧ SameHiLo s t ∧ t.index = s.index ∧
      t.entryLo = s.entryLo ∧ t.badVaddr = s.badVaddr ∧ t.entryHi = s.entryHi ∧ t.cause = s.cause ∧ t.epc = s.epc ∧
      t.tlb = s.tlb ∧ SameBytes s t

/-- 60 R262, R268, R270: where pc does not translate and neither reset nor an enabled interrupt is signalled, the fetch
takes a TLB miss: ExcCode 1, BadVaddr the address of the instruction. (Which input levels are still to come is left
out.) -/
def Obligations.FetchMissIsTaken : Prop :=
  ∀ s : State, s.pinsNow.reset = false → (s.pinsNow.irq && s.sr.iec) = false → s.translate s.pc = none →
    ∃ t, step s = .next t ∧ TookTrap s 1 s.pc { t with pins := s.pins }

/-! ### Register 0 -/

/-- 10 R21: register 0 reads as zero in every state, and a write to it is discarded and has no other effect. -/
def Obligations.RegisterZeroIsHardwired : Prop := ∀ (s : State) (v : Word), s.gpr 0 = 0 ∧ s.setGpr 0 v = s

/-! ### Reset and the invariant -/

/-- 10 R46: the values the spec gives for reset. -/
def Obligations.ResetStateHasTheSpecValues : Prop :=
  State.reset.pc = 0xBFC00000 ∧ State.reset.npc = 0xBFC00004 ∧ State.reset.ds = false ∧ State.reset.gpr 0 = 0 ∧
    State.reset.sr.iec = false ∧ State.reset.storedWords = [] ∧ State.reset.uncachedWords = []

/-- The state after reset meets the invariant. The aligned EPC is the model's choice of zero for it (log 1; 10 R46 leaves
EPC unspecified), the canonical memory its choice of an empty one (log 2); pc, npc and ds are the spec's. -/
def Obligations.ResetMeetsTheInvariant : Prop := Inv State.reset

/-- Every step keeps the invariant: the hard-wired register's cell (10 R21), aligned pc, npc and EPC (10 R25, R26, R41),
npc = pc + 4 outside a delay slot (10 R28), and the canonical forms of memory, W and U. -/
def Obligations.StepKeepsTheInvariant : Prop := ∀ s t : State, Inv s → step s = .next t → Inv t

/-! ### Exceptions -/

/-- 44 R243, R244; 60 R270: SYSCALL and BREAK take their exceptions in every state, whatever their code and IEc. -/
def Obligations.SyscallAndBreakTrap : Prop :=
  ∀ (s : State) (code : Code20),
    (∃ t, exec (.syscall code) s = .next t ∧ TookTrap s s.cfg.syscallExcCode s.badVaddr t) ∧
      ∃ t, exec (.brk code) s = .next t ∧ TookTrap s s.cfg.breakExcCode s.badVaddr t

/-- 40 R160, 60 R262, R270: a load or store whose address is aligned as its width asks and does not translate takes a TLB
miss with the effective address in BadVaddr, and has no other effect. -/
def Obligations.DataMissIsTaken : Prop :=
  ∀ (s : State) (rt rs : Reg) (imm : Imm16),
    s.translate (s.effectiveAddress rs imm) = none →
      (∀ i ∈ [Instr.lb rt imm rs, .lbu rt imm rs, .sb rt imm rs, .lwl rt imm rs, .lwr rt imm rs, .swl rt imm rs,
          .swr rt imm rs], ∃ t, exec i s = .next t ∧ TookTrap s 1 (s.effectiveAddress rs imm) t) ∧
        ((s.effectiveAddress rs imm).getLsbD 0 = false →
          ∀ i ∈ [Instr.lh rt imm rs, .lhu rt imm rs, .sh rt imm rs],
            ∃ t, exec i s = .next t ∧ TookTrap s 1 (s.effectiveAddress rs imm) t) ∧
        (wordAligned (s.effectiveAddress rs imm) →
          ∀ i ∈ [Instr.lw rt imm rs, .sw rt imm rs],
            ∃ t, exec i s = .next t ∧ TookTrap s 1 (s.effectiveAddress rs imm) t)

/-- 45 R251: RFE copies IEp into IEc and IEo into IEp, keeps IEo, and changes nothing else. -/
def Obligations.RfePopsTheStack : Prop :=
  ∀ s : State, ∃ t, exec .rfe s = .next t ∧ t.sr = ⟨s.sr.ieo, s.sr.ieo, s.sr.iep⟩ ∧ WentOn s t ∧ SameRegs s t ∧
    SameHiLo s t ∧ t.index = s.index ∧ t.entryLo = s.entryLo ∧ t.badVaddr = s.badVaddr ∧ t.entryHi = s.entryHi ∧
    t.cause = s.cause ∧ t.epc = s.epc ∧ t.tlb = s.tlb ∧ SameMemory s t

/-- 10 R39, 60 R270, 45 R251: RFE after a trap, of whatever kind, gives IEc and IEp the values they had before the trap. -/
def Obligations.RfeUndoesTheTrapsPush : Prop :=
  ∀ (s t : State) (code : BitVec 5) (badVaddr : Word), TookTrap s code badVaddr t →
    ∃ u, exec .rfe t = .next u ∧ u.sr.iec = s.sr.iec ∧ u.sr.iep = s.sr.iep

/-- 60 R273: from a state outside a delay slot with EPC aligned, the return sequence (MFC0 r, EPC; JR r; RFE) sends
control to EPC outside a delay slot, with IEc and IEp popped, and changes no general register but r. -/
def Obligations.ReturnSequenceResumesAtEpc : Prop :=
  ∀ (s : State) (r : Reg), r ≠ 0 → s.ds = false → wordAligned s.epc →
    ∃ t u v, exec (.mfc0 r 14) s = .next t ∧ exec (.jr r) t = .next u ∧ exec .rfe u = .next v ∧
      v.pc = s.epc ∧ v.npc = s.epc + 4 ∧ v.ds = false ∧ v.sr.iec = s.sr.iep ∧ v.sr.iep = s.sr.ieo ∧
      (∀ q, q ≠ r → v.gpr q = s.gpr q) ∧ SameHiLo s v ∧ v.epc = s.epc ∧ v.cause = s.cause ∧ SameMemory s v

/-! ### ALU with an immediate -/

/-- 41 R183 to R189: the results of the seven instructions that cannot overflow. -/
def Obligations.AluImmediateResults : Prop :=
  ∀ (s : State) (rt rs : Reg) (imm : Imm16),
    (∃ t, exec (.addiu rt rs imm) s = .next t ∧ RegOnly s rt (s.gpr rs + imm.signExtend 32) t) ∧
    (∃ t, exec (.slti rt rs imm) s = .next t ∧
      RegOnly s rt (if (s.gpr rs).toInt < imm.toInt then 1 else 0) t) ∧
    (∃ t, exec (.sltiu rt rs imm) s = .next t ∧
      RegOnly s rt (if s.gpr rs < imm.signExtend 32 then 1 else 0) t) ∧
    (∃ t, exec (.andi rt rs imm) s = .next t ∧ RegOnly s rt (s.gpr rs &&& imm.zeroExtend 32) t) ∧
    (∃ t, exec (.ori rt rs imm) s = .next t ∧ RegOnly s rt (s.gpr rs ||| imm.zeroExtend 32) t) ∧
    (∃ t, exec (.xori rt rs imm) s = .next t ∧ RegOnly s rt (s.gpr rs ^^^ imm.zeroExtend 32) t) ∧
    (∃ t, exec (.lui rt imm) s = .next t ∧ RegOnly s rt (imm.zeroExtend 32 <<< 16) t)

/-! ### Three-operand ALU -/

/-- 42 R193, R195 to R201: the results of the eight instructions that cannot overflow. -/
def Obligations.ThreeOperandResults : Prop :=
  ∀ (s : State) (rd rs rt : Reg),
    (∃ t, exec (.addu rd rs rt) s = .next t ∧ RegOnly s rd (s.gpr rs + s.gpr rt) t) ∧
    (∃ t, exec (.subu rd rs rt) s = .next t ∧ RegOnly s rd (s.gpr rs - s.gpr rt) t) ∧
    (∃ t, exec (.slt rd rs rt) s = .next t ∧
      RegOnly s rd (if (s.gpr rs).toInt < (s.gpr rt).toInt then 1 else 0) t) ∧
    (∃ t, exec (.sltu rd rs rt) s = .next t ∧ RegOnly s rd (if s.gpr rs < s.gpr rt then 1 else 0) t) ∧
    (∃ t, exec (.and rd rs rt) s = .next t ∧ RegOnly s rd (s.gpr rs &&& s.gpr rt) t) ∧
    (∃ t, exec (.or rd rs rt) s = .next t ∧ RegOnly s rd (s.gpr rs ||| s.gpr rt) t) ∧
    (∃ t, exec (.xor rd rs rt) s = .next t ∧ RegOnly s rd (s.gpr rs ^^^ s.gpr rt) t) ∧
    (∃ t, exec (.nor rd rs rt) s = .next t ∧ RegOnly s rd (~~~(s.gpr rs ||| s.gpr rt)) t)

/-- 41 R182, 42 R192, R194: where the exact signed sum or difference fits 32 bits, ADDI, ADD and SUB write it. -/
def Obligations.CheckedArithmeticInRange : Prop :=
  ∀ (s : State) (rd rs rt : Reg) (imm : Imm16),
    (-2 ^ 31 ≤ (s.gpr rs).toInt + imm.toInt → (s.gpr rs).toInt + imm.toInt < 2 ^ 31 →
      ∃ t, exec (.addi rt rs imm) s = .next t ∧ RegOnly s rt (BitVec.ofInt 32 ((s.gpr rs).toInt + imm.toInt)) t) ∧
    (-2 ^ 31 ≤ (s.gpr rs).toInt + (s.gpr rt).toInt → (s.gpr rs).toInt + (s.gpr rt).toInt < 2 ^ 31 →
      ∃ t, exec (.add rd rs rt) s = .next t ∧
        RegOnly s rd (BitVec.ofInt 32 ((s.gpr rs).toInt + (s.gpr rt).toInt)) t) ∧
    (-2 ^ 31 ≤ (s.gpr rs).toInt - (s.gpr rt).toInt → (s.gpr rs).toInt - (s.gpr rt).toInt < 2 ^ 31 →
      ∃ t, exec (.sub rd rs rt) s = .next t ∧
        RegOnly s rd (BitVec.ofInt 32 ((s.gpr rs).toInt - (s.gpr rt).toInt)) t)

/-- What OVERFLOW_MODE makes of an overflowing result v for register r (41 R181). -/
def Obligations.OverflowIsHandledByMode : Prop :=
  ∀ (s : State) (rd rs rt : Reg) (imm : Imm16) (i : Instr) (r : Reg) (v : Word),
    (i = .addi rt rs imm ∧ r = rt ∧ v = s.gpr rs + imm.signExtend 32 ∧
        ((s.gpr rs).toInt + imm.toInt < -2 ^ 31 ∨ 2 ^ 31 ≤ (s.gpr rs).toInt + imm.toInt) ∨
      i = .add rd rs rt ∧ r = rd ∧ v = s.gpr rs + s.gpr rt ∧
        ((s.gpr rs).toInt + (s.gpr rt).toInt < -2 ^ 31 ∨ 2 ^ 31 ≤ (s.gpr rs).toInt + (s.gpr rt).toInt) ∨
      i = .sub rd rs rt ∧ r = rd ∧ v = s.gpr rs - s.gpr rt ∧
        ((s.gpr rs).toInt - (s.gpr rt).toInt < -2 ^ 31 ∨ 2 ^ 31 ≤ (s.gpr rs).toInt - (s.gpr rt).toInt)) →
    (s.cfg.overflowMode = .fault → exec i s = .fault .integerOverflow) ∧
      (s.cfg.overflowMode = .trap →
        ∃ t, exec i s = .next t ∧ TookTrap s s.cfg.overflowExcCode s.badVaddr t) ∧
      (s.cfg.overflowMode = .wrap → ∃ t, exec i s = .next t ∧ RegOnly s r v t)

/-! ### Shifts -/

/-- 42 R203 to R205: the shifts by the shamt field. -/
def Obligations.ShiftByFieldResults : Prop :=
  ∀ (s : State) (rd rt : Reg) (sa : BitVec 5),
    (∃ t, exec (.sll rd rt sa) s = .next t ∧ RegOnly s rd (s.gpr rt <<< sa.toNat) t) ∧
    (∃ t, exec (.srl rd rt sa) s = .next t ∧ RegOnly s rd (s.gpr rt >>> sa.toNat) t) ∧
    (∃ t, exec (.sra rd rt sa) s = .next t ∧ RegOnly s rd (BitVec.ofInt 32 ((s.gpr rt).toInt / 2 ^ sa.toNat)) t)

/-- 42 R206 to R208: the shifts by the low five bits of a register, so by the register modulo 32. -/
def Obligations.ShiftByRegisterResults : Prop :=
  ∀ (s : State) (rd rt rs : Reg),
    (∃ t, exec (.sllv rd rt rs) s = .next t ∧ RegOnly s rd (s.gpr rt <<< ((s.gpr rs).toNat % 32)) t) ∧
    (∃ t, exec (.srlv rd rt rs) s = .next t ∧ RegOnly s rd (s.gpr rt >>> ((s.gpr rs).toNat % 32)) t) ∧
    (∃ t, exec (.srav rd rt rs) s = .next t ∧
      RegOnly s rd (BitVec.ofInt 32 ((s.gpr rt).toInt / 2 ^ ((s.gpr rs).toNat % 32))) t)

/-! ### Multiply, divide, HI and LO -/

/-- 42 R210, R211: HI and LO together are the exact 64-bit product, signed for MULT, unsigned for MULTU. -/
def Obligations.MultiplyGivesTheExactProduct : Prop :=
  ∀ (s : State) (rs rt : Reg),
    (∃ t hi lo, exec (.mult rs rt) s = .next t ∧ HiLoOnly s hi lo t ∧
      (hi ++ lo).toInt = (s.gpr rs).toInt * (s.gpr rt).toInt) ∧
    ∃ t hi lo, exec (.multu rs rt) s = .next t ∧ HiLoOnly s hi lo t ∧
      (hi ++ lo).toNat = (s.gpr rs).toNat * (s.gpr rt).toNat

/-- 42 R212, R213: outside the corners LO is the quotient, rounded toward zero, and HI the remainder, which has the sign of
the dividend. -/
def Obligations.DivideGivesQuotientAndRemainder : Prop :=
  ∀ (s : State) (rs rt : Reg), s.gpr rt ≠ 0 →
    (¬(s.gpr rs = 0x80000000 ∧ s.gpr rt = 0xFFFFFFFF) →
      ∃ t hi lo, exec (.div rs rt) s = .next t ∧ HiLoOnly s hi lo t ∧
        lo.toInt = (s.gpr rs).toInt.tdiv (s.gpr rt).toInt ∧
        hi.toInt = (s.gpr rs).toInt - (s.gpr rt).toInt * lo.toInt) ∧
    ∃ t hi lo, exec (.divu rs rt) s = .next t ∧ HiLoOnly s hi lo t ∧
      (s.gpr rs).toNat = (s.gpr rt).toNat * lo.toNat + hi.toNat ∧ hi.toNat < (s.gpr rt).toNat

/-- 42 R209, R212, R213: a division by zero, and -2^31 by -1, raise no exception: the instruction goes on with some HI and
LO, takes one free value, and changes nothing else. -/
def Obligations.DivideCornersGoOn : Prop :=
  ∀ (s : State) (rs rt : Reg) (i : Instr),
    (i = .div rs rt ∧ (s.gpr rt = 0 ∨ s.gpr rs = 0x80000000 ∧ s.gpr rt = 0xFFFFFFFF) ∨
      i = .divu rs rt ∧ s.gpr rt = 0) →
    ∃ t, exec i s = .next t ∧ WentOn s t ∧ SameRegs s t ∧ SameControl s t ∧ SameBytes s t ∧ SameBlind s t ∧
      SameInputs s t ∧ t.io = s.io ∧ t.draws = s.draws + 1

/-- 42 R214 to R217: the moves from and to HI and LO. -/
def Obligations.HiLoMoves : Prop :=
  ∀ (s : State) (r : Reg),
    (∃ t, exec (.mfhi r) s = .next t ∧ RegOnly s r s.hi t) ∧
    (∃ t, exec (.mflo r) s = .next t ∧ RegOnly s r s.lo t) ∧
    (∃ t, exec (.mthi r) s = .next t ∧ HiLoOnly s (s.gpr r) s.lo t) ∧
    (∃ t, exec (.mtlo r) s = .next t ∧ HiLoOnly s s.hi (s.gpr r) t)

/-! ### Jumps and branches -/

/-- 43 R221, R222, R237: outside a delay slot J and JAL go, after their delay slot, to 4 times the index within the 256 MB
region of the delay slot; JAL links pc + 8 in register 31. -/
def Obligations.RegionJumpResults : Prop :=
  ∀ (s : State) (index : Index26) (target : Word), s.ds = false →
    target.toNat = (s.pc + 4).toNat / 2 ^ 28 * 2 ^ 28 + index.toNat * 4 →
    (∃ t, exec (.j index) s = .next t ∧ SlotOnly s target t) ∧
      ∃ t, exec (.jal index) s = .next t ∧ LinkOnly s target 31 (s.pc + 8) t

/-- 43 R223, R224, R237: outside a delay slot, with a multiple of 4 in their register, JR and JALR go there after their
delay slot; JALR links pc + 8 in its rd, after reading rs. -/
def Obligations.RegisterJumpResults : Prop :=
  ∀ (s : State) (rd rs : Reg), s.ds = false → wordAligned (s.gpr rs) →
    (∃ t, exec (.jr rs) s = .next t ∧ SlotOnly s (s.gpr rs) t) ∧
      ∃ t, exec (.jalr rd rs) s = .next t ∧ LinkOnly s (s.gpr rs) rd (s.pc + 8) t

/-- 10 R30, 43 R223, R224: outside a delay slot, JR and JALR to an address that is not a multiple of 4 stop with
fault(misaligned_jump_target). -/
def Obligations.MisalignedJumpStops : Prop :=
  ∀ (s : State) (rd rs : Reg), s.ds = false → ¬wordAligned (s.gpr rs) →
    exec (.jr rs) s = .fault .misalignedJumpTarget ∧ exec (.jalr rd rs) s = .fault .misalignedJumpTarget

/-- 43 R219, R220, R226 to R231: the six branches that do not link, outside a delay slot, taken or not: after the delay slot
control goes to the target where the condition holds, else on. A taken branch needs a target that is a multiple of 4, as
every target is at an aligned pc with BRANCH_OFFSET_SHIFT at least 2. -/
def Obligations.BranchResults : Prop :=
  ∀ (s : State) (rs rt : Reg) (imm : Imm16) (i : Instr) (taken : Prop) (target : Word), s.ds = false →
    target = s.pc + 4 + imm.signExtend 32 <<< s.cfg.branchOffsetShift →
    (i = .beq rs rt imm ∧ (taken ↔ s.gpr rs = s.gpr rt) ∨ i = .bne rs rt imm ∧ (taken ↔ s.gpr rs ≠ s.gpr rt) ∨
      i = .blez rs imm ∧ (taken ↔ (s.gpr rs).toInt ≤ 0) ∨ i = .bgtz rs imm ∧ (taken ↔ 0 < (s.gpr rs).toInt) ∨
      i = .bltz rs imm ∧ (taken ↔ (s.gpr rs).toInt < 0) ∨ i = .bgez rs imm ∧ (taken ↔ 0 ≤ (s.gpr rs).toInt)) →
    (taken → wordAligned target ∨ wordAligned s.pc ∧ 2 ≤ s.cfg.branchOffsetShift) →
    ∃ t, exec i s = .next t ∧ (taken → SlotOnly s target t) ∧ (¬taken → SlotOnly s (s.npc + 4) t)

/-- 43 R220, R232, R233, R237: BLTZAL and BGEZAL, outside a delay slot, taken or not: they test the old value of their
register, link pc + 8 in register 31 whether or not they branch, and branch as BLTZ and BGEZ do. A taken branch needs a
target that is a multiple of 4, as every target is at an aligned pc with BRANCH_OFFSET_SHIFT at least 2. -/
def Obligations.LinkingBranchResults : Prop :=
  ∀ (s : State) (rs : Reg) (imm : Imm16) (i : Instr) (taken : Prop) (target : Word), s.ds = false →
    target = s.pc + 4 + imm.signExtend 32 <<< s.cfg.branchOffsetShift →
    (i = .bltzal rs imm ∧ (taken ↔ (s.gpr rs).toInt < 0) ∨ i = .bgezal rs imm ∧ (taken ↔ 0 ≤ (s.gpr rs).toInt)) →
    (taken → wordAligned target ∨ wordAligned s.pc ∧ 2 ≤ s.cfg.branchOffsetShift) →
    ∃ t, exec i s = .next t ∧ (taken → LinkOnly s target 31 (s.pc + 8) t) ∧
      (¬taken → LinkOnly s (s.npc + 4) 31 (s.pc + 8) t)

/-- 43 R220, under BRANCH_OFFSET_SHIFT below 2: outside a delay slot, a branch that is taken to an address that is not a
multiple of 4 stops with fault(misaligned_jump_target), and links nothing. -/
def Obligations.MisalignedBranchStops : Prop :=
  ∀ (s : State) (rs rt : Reg) (imm : Imm16) (i : Instr), s.ds = false →
    ¬wordAligned (s.pc + 4 + imm.signExtend 32 <<< s.cfg.branchOffsetShift) →
    (i = .beq rs rt imm ∧ s.gpr rs = s.gpr rt ∨ i = .bne rs rt imm ∧ s.gpr rs ≠ s.gpr rt ∨
      i = .blez rs imm ∧ (s.gpr rs).toInt ≤ 0 ∨ i = .bgtz rs imm ∧ 0 < (s.gpr rs).toInt ∨
      (i = .bltz rs imm ∨ i = .bltzal rs imm) ∧ (s.gpr rs).toInt < 0 ∨
      (i = .bgez rs imm ∨ i = .bgezal rs imm) ∧ 0 ≤ (s.gpr rs).toInt) →
    exec i s = .fault .misalignedJumpTarget

/-- 43 R234: a jump or branch in a delay slot stops with fault(branch_in_delay_slot). -/
def Obligations.JumpInDelaySlotStops : Prop :=
  ∀ (s : State) (i : Instr), s.ds = true → i.isJumpOrBranch = true → exec i s = .fault .branchInDelaySlot

/-- 10 R27, 43 R219: an instruction that is no jump or branch either goes on to npc or takes an exception; where it follows
a jump or branch and goes on, it is the delay-slot instruction and control is then at the target. -/
def Obligations.DelaySlotThenTarget : Prop :=
  (∀ (s t : State) (i : Instr), i.isJumpOrBranch = false → exec i s = .next t →
      WentOn s t ∨ ∃ code badVaddr, TookTrap s code badVaddr t) ∧
    ∀ (s t : State) (i : Instr), i.isJumpOrBranch = true → exec i s = .next t →
      t.pc = s.npc ∧ t.ds = true ∧
        ∀ (j : Instr) (u : State), exec j t = .next u → u.pc = t.npc ∧ u.ds = false ∨ u.pc = 0xBFC00180

/-! ### Control instructions -/

/-- 45 R246, R247: what MFC0 reads from EntryLo, BadVaddr, EntryHi, SR, Cause and EPC. -/
def Obligations.ReadControlResults : Prop :=
  ∀ (s : State) (rt : Reg),
    (∃ t, exec (.mfc0 rt 2) s = .next t ∧
      RegOnly s rt (s.entryLo.pfn ++ (0#2 ++ (BitVec.ofBool s.entryLo.v ++ 0#9))) t) ∧
    (∃ t, exec (.mfc0 rt 9) s = .next t ∧ RegOnly s rt s.badVaddr t) ∧
    (∃ t, exec (.mfc0 rt 10) s = .next t ∧ RegOnly s rt (s.entryHi ++ 0#12) t) ∧
    (∃ t, exec (.mfc0 rt 12) s = .next t ∧
      RegOnly s rt ((if s.sr.ieo then 16 else 0) + (if s.sr.iep then 4 else 0) + if s.sr.iec then 1 else 0) t) ∧
    (∃ t, exec (.mfc0 rt 13) s = .next t ∧
      RegOnly s rt ((if s.cause.bd then 0x80000000 else 0) + s.cause.excCode.zeroExtend 32 <<< 2) t) ∧
    (∃ t, exec (.mfc0 rt 14) s = .next t ∧ RegOnly s rt s.epc t)

/-- 10 R33, R34, 45 R246: MFC0 from Index goes on; bits 13..8 of what it reads are Index.Index and bit 31 is zero, whatever
its undefined bits are; it takes one free value and writes one register. -/
def Obligations.ReadIndexResult : Prop :=
  ∀ (s : State) (rt : Reg), ∃ t v, exec (.mfc0 rt 0) s = .next t ∧ WroteReg s rt v t ∧
    v.extractLsb' 8 6 = s.index ∧ v.getLsbD 31 = false ∧ WentOn s t ∧ SameHiLo s t ∧ SameControl s t ∧
    SameBytes s t ∧ SameBlind s t ∧ SameInputs s t ∧ t.io = s.io ∧ t.draws = s.draws + 1

/-- 45 R246, R248: what MTC0 writes to Index, EntryLo, EntryHi and SR; nothing else changes. -/
def Obligations.WriteControlResults : Prop :=
  ∀ (s : State) (rt : Reg),
    (∃ t, exec (.mtc0 rt 0) s = .next t ∧ t.index = (s.gpr rt).extractLsb' 8 6 ∧
      SameControl { s with index := t.index } t ∧ WentOn s t ∧ SameRegs s t ∧ SameHiLo s t ∧ SameMemory s t) ∧
    (∃ t, exec (.mtc0 rt 2) s = .next t ∧ t.entryLo.pfn = (s.gpr rt).extractLsb' 12 20 ∧
      t.entryLo.v = (s.gpr rt).getLsbD 9 ∧
      SameControl { s with entryLo := t.entryLo } t ∧ WentOn s t ∧ SameRegs s t ∧ SameHiLo s t ∧ SameMemory s t) ∧
    (∃ t, exec (.mtc0 rt 10) s = .next t ∧ t.entryHi = (s.gpr rt).extractLsb' 12 20 ∧
      SameControl { s with entryHi := t.entryHi } t ∧ WentOn s t ∧ SameRegs s t ∧ SameHiLo s t ∧ SameMemory s t) ∧
    (∃ t, exec (.mtc0 rt 12) s = .next t ∧ t.sr.ieo = (s.gpr rt).getLsbD 4 ∧ t.sr.iep = (s.gpr rt).getLsbD 2 ∧
      t.sr.iec = (s.gpr rt).getLsbD 0 ∧
      SameControl { s with sr := t.sr } t ∧ WentOn s t ∧ SameRegs s t ∧ SameHiLo s t ∧ SameMemory s t)

/-- 10 R33, 45 R246: MFC0 and MTC0 of a register that is not in Figure 7 stop with fault(unknown_control_register), and
MTC0 to BadVaddr, Cause or EPC stops with fault(mtc0_to_hardware_written_register). -/
def Obligations.IllFormedControlMoveStops : Prop :=
  ∀ (s : State) (rt rd : Reg),
    (rd ∉ controlRegisters → exec (.mfc0 rt rd) s = .fault .unknownControlRegister ∧
      exec (.mtc0 rt rd) s = .fault .unknownControlRegister) ∧
    (rd ∈ [9, 13, 14] → exec (.mtc0 rt rd) s = .fault .mtc0ToHardwareWrittenRegister)

/-- 45 R249, R250: TLBR copies the entry Index names into EntryLo and EntryHi; TLBWI copies EntryHi and EntryLo into the
entry Index names and leaves every other entry; neither changes anything else. -/
def Obligations.TlbReadAndWriteResults : Prop :=
  ∀ s : State,
    (∃ t, exec .tlbr s = .next t ∧
      t.entryHi = (s.tlb[s.index.toNat]'s.index.isLt).vpn ∧
      t.entryLo.pfn = (s.tlb[s.index.toNat]'s.index.isLt).pfn ∧
      t.entryLo.v = (s.tlb[s.index.toNat]'s.index.isLt).v ∧
      SameControl { s with entryLo := t.entryLo, entryHi := t.entryHi } t ∧
      WentOn s t ∧ SameRegs s t ∧ SameHiLo s t ∧ SameMemory s t) ∧
    ∃ t, exec .tlbwi s = .next t ∧
      (∀ (k : Nat) (hk : k < 64), t.tlb[k] =
        if k = s.index.toNat then ⟨s.entryHi, s.entryLo.pfn, s.entryLo.v⟩ else s.tlb[k]) ∧
      SameControl { s with tlb := t.tlb } t ∧ WentOn s t ∧ SameRegs s t ∧ SameHiLo s t ∧ SameMemory s t

/-- 20 R80, R81, 45 R250: after TLBWI with V = 1, a mapped address of the written page translates to the written frame,
if its page number selects the written slot; every other mapped address that selects the slot misses; addresses that
select another slot, and unmapped ones, translate as before. -/
def Obligations.TlbWriteThenTranslate : Prop :=
  ∀ (s t : State) (la : Word), exec .tlbwi s = .next t →
    (la.extractLsb' 30 2 = 0b10#2 ∨ la.extractLsb' 12 6 ≠ s.index → t.translate la = s.translate la) ∧
    (la.extractLsb' 30 2 ≠ 0b10#2 → la.extractLsb' 12 6 = s.index →
      t.translate la =
        if s.entryLo.v = true ∧ s.entryHi = la.extractLsb' 12 20 then
          some ⟨s.entryLo.pfn ++ la.extractLsb' 0 12, true⟩
        else none)

/-! ### Translation -/

/-- 20 R75, R80: an address in kseg0 or kseg1 is translated to the low 512 MB whatever the TLB holds, cached in kseg0,
uncached in kseg1; an address in kuseg or kseg2 is translated by the TLB entry that its bits 17..12 select, exactly when
that entry is valid and holds its page number. That a mapped address is cached is the spec's decision D31 (log 20). -/
def Obligations.AddressTranslation : Prop :=
  (∀ (s : State) (la : Word), 0x80000000 ≤ la.toNat → la.toNat < 0xC0000000 →
      ∃ p, s.translate la = some p ∧ p.pa.toNat = la.toNat % 2 ^ 29 ∧ (p.cached = true ↔ la.toNat < 0xA0000000)) ∧
    ∀ (s : State) (la : Word) (p : PhysAddr), la.toNat < 0x80000000 ∨ 0xC0000000 ≤ la.toNat →
      (s.translate la = some p ↔
        ∃ e : TlbEntry, s.tlb[la.toNat / 2 ^ 12 % 64]'(Nat.mod_lt _ (by decide)) = e ∧ e.v = true ∧
          e.vpn.toNat = la.toNat / 2 ^ 12 ∧ p.pa.toNat = e.pfn.toNat * 2 ^ 12 + la.toNat % 2 ^ 12 ∧ p.cached = true)

/-! ### Loads -/

/-- 40 R162, R163, R165, R166, R168, 20 R72: the aligned loads, where memory is read: the bytes little endian, extended as
the mnemonic says; only the destination register is written. -/
def Obligations.AlignedLoadResults : Prop :=
  ∀ (s : State) (rt rs : Reg) (imm : Imm16) (p : PhysAddr), ReadsMemoryAt s (s.effectiveAddress rs imm) p →
    (∃ t, exec (.lb rt imm rs) s = .next t ∧ RegOnly s rt ((s.byteAt p.pa 0).signExtend 32) t) ∧
    (∃ t, exec (.lbu rt imm rs) s = .next t ∧ RegOnly s rt ((s.byteAt p.pa 0).zeroExtend 32) t) ∧
    ((s.effectiveAddress rs imm).getLsbD 0 = false →
      (∃ t, exec (.lh rt imm rs) s = .next t ∧
        RegOnly s rt ((s.byteAt p.pa 1 ++ s.byteAt p.pa 0).signExtend 32) t) ∧
      ∃ t, exec (.lhu rt imm rs) s = .next t ∧
        RegOnly s rt ((s.byteAt p.pa 1 ++ s.byteAt p.pa 0).zeroExtend 32) t) ∧
    (wordAligned (s.effectiveAddress rs imm) →
      ∃ t, exec (.lw rt imm rs) s = .next t ∧ RegOnly s rt (s.wordAt p.pa) t)

/-- 40 R170, R171: LWL and LWR, where memory is read, by the addressed byte of the word: the tables of the two rules. -/
def Obligations.UnalignedLoadResults : Prop :=
  ∀ (s : State) (rt rs : Reg) (imm : Imm16) (p : PhysAddr) (w : Word) (b : Nat),
    ReadsMemoryAt s (s.effectiveAddress rs imm) p → w = s.wordAt (p.pa - BitVec.ofNat 32 b) →
    (s.effectiveAddress rs imm).toNat % 4 = b →
    (∃ t, exec (.lwl rt imm rs) s = .next t ∧ RegOnly s rt (leftMerged b w (s.gpr rt)) t) ∧
      ∃ t, exec (.lwr rt imm rs) s = .next t ∧ RegOnly s rt (rightMerged b w (s.gpr rt)) t

/-- 40 R171: LWR then LWL, at a byte address and three above it, load the four bytes from that address up, whatever the
register held. -/
def Obligations.UnalignedPairLoadsTheWord : Prop :=
  ∀ (s : State) (rt rs : Reg) (p q : PhysAddr), rt ≠ 0 → rt ≠ rs →
    ReadsMemoryAt s (s.gpr rs) p → ReadsMemoryAt s (s.gpr rs + 3) q →
    ∃ t u, exec (.lwr rt 0 rs) s = .next t ∧ exec (.lwl rt 3 rs) t = .next u ∧
      ∀ k, k < 4 → ∃ x, s.translate (s.gpr rs + BitVec.ofNat 32 k) = some x ∧
        (u.gpr rt).extractLsb' (8 * k) 8 = s.mem.read x.pa.toNat

/-! ### Stores -/

/-- 40 R164, R167, R169, 20 R87, R98, R99: the aligned stores to RAM write the low bytes of the register from the translated
address up, and no other byte; no register changes. The store is noted in W and U; that this takes place whatever STRICT_CACHE is, and
that a cached store of part of a word takes the word out of U, is log 11. -/
def Obligations.AlignedStoreResults : Prop :=
  ∀ (s : State) (rt rs : Reg) (imm : Imm16) (p : PhysAddr), WritesRamAt s (s.effectiveAddress rs imm) p →
    (∃ t, exec (.sb rt imm rs) s = .next t ∧
      StoreOnly s p p.pa 1 (fun k => (s.gpr rt).extractLsb' (8 * k) 8) t) ∧
    ((s.effectiveAddress rs imm).getLsbD 0 = false →
      ∃ t, exec (.sh rt imm rs) s = .next t ∧
        StoreOnly s p p.pa 2 (fun k => (s.gpr rt).extractLsb' (8 * k) 8) t) ∧
    (wordAligned (s.effectiveAddress rs imm) →
      ∃ t, exec (.sw rt imm rs) s = .next t ∧
        StoreOnly s p p.pa 4 (fun k => (s.gpr rt).extractLsb' (8 * k) 8) t)

/-- 40 R172, R173: SWL to RAM stores the top b + 1 bytes of the register from the start of the word up to the addressed
byte b, SWR the low 4 - b bytes from the addressed byte up, and no other byte. The store is noted in W and U (20 R87, R98,
R99); that a cached store of part of a word takes the word out of U is log 11. -/
def Obligations.UnalignedStoreResults : Prop :=
  ∀ (s : State) (rt rs : Reg) (imm : Imm16) (p : PhysAddr) (b : Nat), WritesRamAt s (s.effectiveAddress rs imm) p →
    (s.effectiveAddress rs imm).toNat % 4 = b →
    (∃ t, exec (.swl rt imm rs) s = .next t ∧
      StoreOnly s p (p.pa - BitVec.ofNat 32 b) (b + 1) (fun k => (s.gpr rt).extractLsb' (8 * (3 - b + k)) 8) t) ∧
    ∃ t, exec (.swr rt imm rs) s = .next t ∧
      StoreOnly s p p.pa (4 - b) (fun k => (s.gpr rt).extractLsb' (8 * k) 8) t

/-- 20 R94: a word stored to RAM is what a load of the same address reads next. -/
def Obligations.StoreThenLoadGivesTheWord : Prop :=
  ∀ (s : State) (rt rs rd : Reg) (imm : Imm16) (p : PhysAddr), WritesRamAt s (s.effectiveAddress rs imm) p →
    wordAligned (s.effectiveAddress rs imm) → rd ≠ 0 →
    ∃ t u, exec (.sw rt imm rs) s = .next t ∧ exec (.lw rd imm rs) t = .next u ∧ u.gpr rd = s.gpr rt

/-! ### Where accesses stop, and devices -/

/-- 20 R74, 40 R160: LH, LHU, SH at an odd address, LW and SW at one that is no multiple of 4, stop before translation with
fault(misaligned_data_access). -/
def Obligations.MisalignedAccessStops : Prop :=
  ∀ (s : State) (rt rs : Reg) (imm : Imm16),
    ((s.effectiveAddress rs imm).getLsbD 0 = true →
      ∀ i ∈ [Instr.lh rt imm rs, .lhu rt imm rs, .sh rt imm rs], exec i s = .fault .misalignedDataAccess) ∧
    (¬wordAligned (s.effectiveAddress rs imm) →
      ∀ i ∈ [Instr.lw rt imm rs, .sw rt imm rs], exec i s = .fault .misalignedDataAccess)

/-- 20 R91, R92, R99: an access whose address is aligned as its width asks stops by name at an unpopulated physical
address, at an I/O register reached through the cache, at ROM for a store, and, under STRICT_CACHE, at a word last
stored to uncached for a cached load. A fetch, where no reset and no enabled interrupt is signalled, stops by name at an
unpopulated physical address and at an I/O register reached through the cache. -/
def Obligations.PhysicalAccessStops : Prop :=
  (∀ (s : State) (rt rs : Reg) (imm : Imm16) (p : PhysAddr) (loads stores : List Instr),
    s.translate (s.effectiveAddress rs imm) = some p →
    (loads = [.lb rt imm rs, .lbu rt imm rs, .lwl rt imm rs, .lwr rt imm rs] ∧
        stores = [.sb rt imm rs, .swl rt imm rs, .swr rt imm rs] ∨
      (s.effectiveAddress rs imm).getLsbD 0 = false ∧ loads = [.lh rt imm rs, .lhu rt imm rs] ∧
        stores = [.sh rt imm rs] ∨
      wordAligned (s.effectiveAddress rs imm) ∧ loads = [.lw rt imm rs] ∧ stores = [.sw rt imm rs]) →
    (kindAt s.cfg p.pa = none → ∀ i ∈ loads ++ stores, exec i s = .fault .unpopulatedPhysicalAddress) ∧
    (kindAt s.cfg p.pa = some .io → p.cached = true → ∀ i ∈ loads ++ stores, exec i s = .fault .cachedIoAccess) ∧
    (kindAt s.cfg p.pa = some .rom → ∀ i ∈ stores, exec i s = .fault .storeToRom) ∧
    (kindAt s.cfg p.pa = some .ram ∨ kindAt s.cfg p.pa = some .rom → s.cfg.strictCache = true → p.cached = true →
      s.uncachedWords.has (wordOf p.pa).toNat = true →
      ∀ i ∈ loads, exec i s = .fault .cachedLoadAfterUncachedStore)) ∧
  ∀ (s : State) (p : PhysAddr), s.pinsNow.reset = false → (s.pinsNow.irq && s.sr.iec) = false →
    s.translate s.pc = some p →
    (kindAt s.cfg p.pa = none → step s = .fault .unpopulatedPhysicalAddress) ∧
    (kindAt s.cfg p.pa = some .io → p.cached = true → step s = .fault .cachedIoAccess)

/-- 20 R98: under STRICT_CACHE a cached fetch of a word of memory that was stored to since reset stops with
fault(ifetch_after_store). -/
def Obligations.CachedFetchAfterStoreStops : Prop :=
  ∀ (s : State) (p : PhysAddr), s.pinsNow.reset = false → (s.pinsNow.irq && s.sr.iec) = false →
    s.translate s.pc = some p → p.cached = true → (kindAt s.cfg p.pa = some .ram ∨ kindAt s.cfg p.pa = some .rom) →
    s.cfg.strictCache = true → s.storedWords.has (wordOf p.pa).toNat = true → step s = .fault .ifetchAfterStore

/-- 20 R92, 40 R162 to R171: an uncached load from an I/O register goes on, takes one free value, and adds exactly one read
to the record of device accesses (log 9, log 10; LWL and LWR read their whole aligned word, log 24). The register gets what
the mnemonic makes of the device's answer x, of which nothing is said: the low byte or halfword, sign- or zero-extended, the
word, or the tables of R170 and R171. No other register, and no memory, changes. -/
def Obligations.DeviceReadHappensOnce : Prop :=
  ∀ (s : State) (rt rs : Reg) (imm : Imm16) (p : PhysAddr) (i : Instr) (pa n b : Nat) (f : Word → Word),
    ReachesIoAt s (s.effectiveAddress rs imm) p → b = (s.effectiveAddress rs imm).toNat % 4 →
    (i = .lb rt imm rs ∧ pa = p.pa.toNat ∧ n = 1 ∧ f = (fun x => (x.extractLsb' 0 8).signExtend 32) ∨
      i = .lbu rt imm rs ∧ pa = p.pa.toNat ∧ n = 1 ∧ f = (fun x => (x.extractLsb' 0 8).zeroExtend 32) ∨
      i = .lh rt imm rs ∧ b % 2 = 0 ∧ pa = p.pa.toNat ∧ n = 2 ∧ f = (fun x => (x.extractLsb' 0 16).signExtend 32) ∨
      i = .lhu rt imm rs ∧ b % 2 = 0 ∧ pa = p.pa.toNat ∧ n = 2 ∧ f = (fun x => (x.extractLsb' 0 16).zeroExtend 32) ∨
      i = .lw rt imm rs ∧ b = 0 ∧ pa = p.pa.toNat ∧ n = 4 ∧ f = (fun x => x) ∨
      i = .lwl rt imm rs ∧ pa = p.pa.toNat - b ∧ n = 4 ∧ f = (fun x => leftMerged b x (s.gpr rt)) ∨
      i = .lwr rt imm rs ∧ pa = p.pa.toNat - b ∧ n = 4 ∧ f = (fun x => rightMerged b x (s.gpr rt))) →
    ∃ t x, exec i s = .next t ∧ t.io = .read pa n :: s.io ∧ t.draws = s.draws + 1 ∧ WroteReg s rt (f x) t ∧
      WentOn s t ∧ SameHiLo s t ∧ SameControl s t ∧ SameBytes s t ∧ SameBlind s t ∧ SameInputs s t

/-- 20 R92: an uncached store to an I/O register goes on and adds exactly one write, of the stored bytes, to the record of
device accesses (log 9, log 24); no register and no memory changes. The store is noted in W and U (20 R98, R99): that a
store to an I/O register is noted too is log 11. -/
def Obligations.DeviceWriteHappensOnce : Prop :=
  ∀ (s : State) (rt rs : Reg) (imm : Imm16) (p : PhysAddr) (i : Instr) (pa n first b : Nat),
    ReachesIoAt s (s.effectiveAddress rs imm) p → b = (s.effectiveAddress rs imm).toNat % 4 →
    (i = .sb rt imm rs ∧ pa = p.pa.toNat ∧ n = 1 ∧ first = 0 ∨
      i = .sh rt imm rs ∧ b % 2 = 0 ∧ pa = p.pa.toNat ∧ n = 2 ∧ first = 0 ∨
      i = .sw rt imm rs ∧ b = 0 ∧ pa = p.pa.toNat ∧ n = 4 ∧ first = 0 ∨
      i = .swl rt imm rs ∧ pa = p.pa.toNat - b ∧ n = b + 1 ∧ first = 3 - b ∨
      i = .swr rt imm rs ∧ pa = p.pa.toNat ∧ n = 4 - b ∧ first = 0) →
    ∃ t, exec i s = .next t ∧
      t.io = .write ((List.range n).map fun k => (pa + k, (s.gpr rt).extractLsb' (8 * (first + k)) 8)) :: s.io ∧
      NotedStore s p t ∧ WentOn s t ∧ SameRegs s t ∧ SameHiLo s t ∧ SameControl s t ∧ SameBytes s t ∧
      SameInputs s t ∧ t.draws = s.draws

/-! ### Rules over all instructions -/

/-- 20 R71: only the five store instructions change memory: after any other, every byte reads as before, and W and U are
unchanged. -/
def Obligations.OnlyStoresChangeMemory : Prop :=
  ∀ (s t : State) (i : Instr), i.isStore = false → exec i s = .next t → SameBytes s t ∧ SameBlind s t

/-- 20 R91: no step changes a byte of ROM. -/
def Obligations.RomNeverChanges : Prop :=
  ∀ (s t : State) (pa : Word), step s = .next t → kindAt s.cfg pa = some .rom →
    t.mem.read pa.toNat = s.mem.read pa.toNat

/-- 20 R76: an address in kseg0 or kseg1 goes to the physical address with bits 31..29 cleared, in every state, so whatever
the TLB holds and without a miss; physical addresses at and above 0x20000000 are reachable only through TLB-mapped pages:
an address that translates there lies in another segment, and while no valid TLB entry has a frame there, no step changes
a byte there. -/
def Obligations.HighMemoryNeedsTheTlb : Prop :=
  (∀ (s : State) (la : Word), la.extractLsb' 30 2 = 0b10#2 →
      ∃ p, s.translate la = some p ∧ p.pa = la &&& 0x1FFFFFFF) ∧
    (∀ (s : State) (la : Word) (p : PhysAddr), s.translate la = some p → 0x20000000 ≤ p.pa.toNat →
      la.extractLsb' 30 2 ≠ 0b10#2) ∧
    ∀ (s t : State) (a : Nat), step s = .next t →
      (∀ (k : Nat) (hk : k < 64), s.tlb[k].v = true → s.tlb[k].pfn.toNat * 2 ^ 12 < 0x20000000) → 0x20000000 ≤ a →
      t.mem.read a = s.mem.read a

/-- 10 R24, R34, R42: HI and LO change only in MULT, MULTU, DIV, DIVU, MTHI and MTLO; the TLB only in TLBWI; Index only in
MTC0. -/
def Obligations.SpecialRegistersHaveFewWriters : Prop :=
  ∀ (s t : State) (i : Instr), exec i s = .next t →
    ((∀ rs rt, i ≠ .mult rs rt ∧ i ≠ .multu rs rt ∧ i ≠ .div rs rt ∧ i ≠ .divu rs rt ∧ i ≠ .mthi rs ∧
        i ≠ .mtlo rs) → t.hi = s.hi ∧ t.lo = s.lo) ∧
    (i ≠ .tlbwi → t.tlb = s.tlb) ∧
    ((∀ rt, i ≠ .mtc0 rt 0) → t.index = s.index)

/-- 10 R32, R36, R40, R41: EPC, Cause and BadVaddr change only by trap entry: a step that changes one of them sends control
to the exception vector. -/
def Obligations.HardwareWrittenRegistersNeedATrap : Prop :=
  ∀ s t : State, step s = .next t →
    t.epc = s.epc ∧ t.cause = s.cause ∧ t.badVaddr = s.badVaddr ∨
      t.pc = 0xBFC00180 ∧ t.npc = 0xBFC00184 ∧ t.ds = false ∧ t.sr.iec = false ∧ t.sr.iep = s.sr.iec ∧
        t.sr.ieo = s.sr.iep

/-- 10 R32, R38: an instruction other than MTC0 to SR and RFE leaves SR unchanged or takes an exception, which pushes its
stack. -/
def Obligations.StatusRegisterHasFewWriters : Prop :=
  ∀ (s t : State) (i : Instr), exec i s = .next t → (∀ rt, i ≠ .mtc0 rt 12) → i ≠ .rfe →
    t.sr = s.sr ∨ t.sr = ⟨s.sr.iep, s.sr.iec, false⟩ ∧ t.pc = 0xBFC00180
end

