-- ==== Sys2Proof/Laws/Encoding.lean ====
section
/-! SUPPORT. The fields of the encoder's words: each field of a word built from fields is the field put there. -/

namespace Sys2Proof

/-! ### Slices of concatenations -/

/-- A slice that lies in the high part. -/
theorem extractLsb'_append_high {n m : Nat} (x : BitVec n) (y : BitVec m) (k w : Nat) (h : m ≤ k) :
    (x ++ y).extractLsb' k w = x.extractLsb' (k - m) w := by
  ext i hi
  simp [BitVec.getElem_extractLsb', BitVec.getLsbD_append, show ¬k + i < m by omega,
    show k + i - m = k - m + i by omega]

/-- A slice that lies in the low part. -/
theorem extractLsb'_append_low {n m : Nat} (x : BitVec n) (y : BitVec m) (k w : Nat) (h : k + w ≤ m) :
    (x ++ y).extractLsb' k w = y.extractLsb' k w := by
  ext i hi
  simp [BitVec.getElem_extractLsb', BitVec.getLsbD_append, show k + i < m by omega]

/-- The slice that is the whole. -/
theorem extractLsb'_whole {n : Nat} (x : BitVec n) : x.extractLsb' 0 n = x := by
  ext i hi; simp

/-! ### rType -/

@[simp] theorem opField_rType (op : BitVec 6) (rs rt rd : Reg) (sa : BitVec 5) (fn : BitVec 6) :
    opField (rType op rs rt rd sa fn) = op :=
  (extractLsb'_append_high (n := 6) (m := 26) op _ 26 6 (by omega)).trans
    (extractLsb'_whole op)

@[simp] theorem rsField_rType (op : BitVec 6) (rs rt rd : Reg) (sa : BitVec 5) (fn : BitVec 6) :
    rsField (rType op rs rt rd sa fn) = rs :=
  (extractLsb'_append_low (n := 6) (m := 26) op _ 21 5 (by omega)).trans
    ((extractLsb'_append_high (n := 5) (m := 21) rs _ 21 5 (by omega)).trans
    (extractLsb'_whole rs))

@[simp] theorem rtField_rType (op : BitVec 6) (rs rt rd : Reg) (sa : BitVec 5) (fn : BitVec 6) :
    rtField (rType op rs rt rd sa fn) = rt :=
  (extractLsb'_append_low (n := 6) (m := 26) op _ 16 5 (by omega)).trans
    ((extractLsb'_append_low (n := 5) (m := 21) rs _ 16 5 (by omega)).trans
    ((extractLsb'_append_high (n := 5) (m := 16) rt _ 16 5 (by omega)).trans
    (extractLsb'_whole rt)))

@[simp] theorem rdField_rType (op : BitVec 6) (rs rt rd : Reg) (sa : BitVec 5) (fn : BitVec 6) :
    rdField (rType op rs rt rd sa fn) = rd :=
  (extractLsb'_append_low (n := 6) (m := 26) op _ 11 5 (by omega)).trans
    ((extractLsb'_append_low (n := 5) (m := 21) rs _ 11 5 (by omega)).trans
    ((extractLsb'_append_low (n := 5) (m := 16) rt _ 11 5 (by omega)).trans
    ((extractLsb'_append_high (n := 5) (m := 11) rd _ 11 5 (by omega)).trans
    (extractLsb'_whole rd))))

@[simp] theorem shamtField_rType (op : BitVec 6) (rs rt rd : Reg) (sa : BitVec 5) (fn : BitVec 6) :
    shamtField (rType op rs rt rd sa fn) = sa :=
  (extractLsb'_append_low (n := 6) (m := 26) op _ 6 5 (by omega)).trans
    ((extractLsb'_append_low (n := 5) (m := 21) rs _ 6 5 (by omega)).trans
    ((extractLsb'_append_low (n := 5) (m := 16) rt _ 6 5 (by omega)).trans
    ((extractLsb'_append_low (n := 5) (m := 11) rd _ 6 5 (by omega)).trans
    ((extractLsb'_append_high (n := 5) (m := 6) sa _ 6 5 (by omega)).trans
    (extractLsb'_whole sa)))))

@[simp] theorem functField_rType (op : BitVec 6) (rs rt rd : Reg) (sa : BitVec 5) (fn : BitVec 6) :
    functField (rType op rs rt rd sa fn) = fn :=
  (extractLsb'_append_low (n := 6) (m := 26) op _ 0 6 (by omega)).trans
    ((extractLsb'_append_low (n := 5) (m := 21) rs _ 0 6 (by omega)).trans
    ((extractLsb'_append_low (n := 5) (m := 16) rt _ 0 6 (by omega)).trans
    ((extractLsb'_append_low (n := 5) (m := 11) rd _ 0 6 (by omega)).trans
    ((extractLsb'_append_low (n := 5) (m := 6) sa _ 0 6 (by omega)).trans
    (extractLsb'_whole fn)))))

/-! ### iType -/

@[simp] theorem opField_iType (op : BitVec 6) (rs rt : Reg) (imm : Imm16) :
    opField (iType op rs rt imm) = op :=
  (extractLsb'_append_high (n := 6) (m := 26) op _ 26 6 (by omega)).trans
    (extractLsb'_whole op)

@[simp] theorem rsField_iType (op : BitVec 6) (rs rt : Reg) (imm : Imm16) :
    rsField (iType op rs rt imm) = rs :=
  (extractLsb'_append_low (n := 6) (m := 26) op _ 21 5 (by omega)).trans
    ((extractLsb'_append_high (n := 5) (m := 21) rs _ 21 5 (by omega)).trans
    (extractLsb'_whole rs))

@[simp] theorem rtField_iType (op : BitVec 6) (rs rt : Reg) (imm : Imm16) :
    rtField (iType op rs rt imm) = rt :=
  (extractLsb'_append_low (n := 6) (m := 26) op _ 16 5 (by omega)).trans
    ((extractLsb'_append_low (n := 5) (m := 21) rs _ 16 5 (by omega)).trans
    ((extractLsb'_append_high (n := 5) (m := 16) rt _ 16 5 (by omega)).trans
    (extractLsb'_whole rt)))

@[simp] theorem immField_iType (op : BitVec 6) (rs rt : Reg) (imm : Imm16) :
    immField (iType op rs rt imm) = imm :=
  (extractLsb'_append_low (n := 6) (m := 26) op _ 0 16 (by omega)).trans
    ((extractLsb'_append_low (n := 5) (m := 21) rs _ 0 16 (by omega)).trans
    ((extractLsb'_append_low (n := 5) (m := 16) rt _ 0 16 (by omega)).trans
    (extractLsb'_whole imm)))

/-! ### jType -/

@[simp] theorem opField_jType (op : BitVec 6) (index : Index26) :
    opField (jType op index) = op :=
  (extractLsb'_append_high (n := 6) (m := 26) op _ 26 6 (by omega)).trans
    (extractLsb'_whole op)

@[simp] theorem indexField_jType (op : BitVec 6) (index : Index26) :
    indexField (jType op index) = index :=
  (extractLsb'_append_low (n := 6) (m := 26) op _ 0 26 (by omega)).trans
    (extractLsb'_whole index)

/-! ### codeType -/

@[simp] theorem opField_codeType (code : Code20) (fn : BitVec 6) :
    opField (codeType code fn) = 0#6 :=
  (extractLsb'_append_high (n := 6) (m := 26) 0#6 _ 26 6 (by omega)).trans
    (extractLsb'_whole 0#6)

@[simp] theorem functField_codeType (code : Code20) (fn : BitVec 6) :
    functField (codeType code fn) = fn :=
  (extractLsb'_append_low (n := 6) (m := 26) 0#6 _ 0 6 (by omega)).trans
    ((extractLsb'_append_low (n := 20) (m := 6) code _ 0 6 (by omega)).trans
    (extractLsb'_whole fn))

@[simp] theorem codeField_codeType (code : Code20) (fn : BitVec 6) :
    codeField (codeType code fn) = code :=
  (extractLsb'_append_low (n := 6) (m := 26) 0#6 _ 6 20 (by omega)).trans
    ((extractLsb'_append_high (n := 20) (m := 6) code _ 6 20 (by omega)).trans
    (extractLsb'_whole code))

/-! ### Masking -/

/-- Masking such a word masks its fields. -/
theorem rType_and (op : BitVec 6) (rs rt rd : Reg) (sa : BitVec 5) (fn : BitVec 6)
    (op' : BitVec 6) (rs' rt' rd' : Reg) (sa' : BitVec 5) (fn' : BitVec 6) :
    rType op rs rt rd sa fn &&& rType op' rs' rt' rd' sa' fn' =
      rType (op &&& op') (rs &&& rs') (rt &&& rt') (rd &&& rd') (sa &&& sa') (fn &&& fn') := by
  unfold rType
  refine (BitVec.and_append (w := 6) (v := 26)).trans (congrArg _ ?_)
  refine (BitVec.and_append (w := 5) (v := 21)).trans (congrArg _ ?_)
  refine (BitVec.and_append (w := 5) (v := 16)).trans (congrArg _ ?_)
  refine (BitVec.and_append (w := 5) (v := 11)).trans (congrArg _ ?_)
  exact BitVec.and_append (w := 5) (v := 6)

/-- Masking such a word masks its fields. -/
theorem iType_and (op : BitVec 6) (rs rt : Reg) (imm : Imm16)
    (op' : BitVec 6) (rs' rt' : Reg) (imm' : Imm16) :
    iType op rs rt imm &&& iType op' rs' rt' imm' =
      iType (op &&& op') (rs &&& rs') (rt &&& rt') (imm &&& imm') := by
  unfold iType
  refine (BitVec.and_append (w := 6) (v := 26)).trans (congrArg _ ?_)
  refine (BitVec.and_append (w := 5) (v := 21)).trans (congrArg _ ?_)
  exact BitVec.and_append (w := 5) (v := 16)

/-- Masking such a word masks its fields. -/
theorem jType_and (op : BitVec 6) (index : Index26)
    (op' : BitVec 6) (index' : Index26) :
    jType op index &&& jType op' index' =
      jType (op &&& op') (index &&& index') := by
  unfold jType
  exact BitVec.and_append (w := 6) (v := 26)

/-- Masking a SYSCALL or BREAK word masks its fields. -/
theorem codeType_and (code : Code20) (fn : BitVec 6) (op' : BitVec 6) (code' : Code20) (fn' : BitVec 6) :
    codeType code fn &&& (op' ++ (code' ++ fn') : BitVec (6 + (20 + 6))) = codeType (code &&& code') (fn &&& fn') := by
  unfold codeType
  refine (BitVec.and_append (w := 6) (v := 26)).trans ?_
  rw [BitVec.zero_and]
  exact congrArg _ (BitVec.and_append (w := 20) (v := 6))

end Sys2Proof
end

