-- ==== Sys2Proof/Laws/Memory.lean ====
section
/-! SUPPORT. The laws of memory and of the sets of words: reading after a write, and that every operation keeps the
canonical form. -/

namespace Sys2Proof.Machine

/-! ### Reading -/

@[simp] theorem Memory.read_nil (a : Nat) : Memory.read [] a = Memory.unlisted := rfl

@[simp] theorem Memory.read_cons (k a : Nat) (v : Byte) (m : Memory) :
    Memory.read ((k, v) :: m) a = if k = a then v else Memory.read m a := rfl

/-- An erased address reads as unlisted. -/
theorem Memory.read_erase_self (m : Memory) (a : Nat) : (m.erase a).read a = Memory.unlisted := by
  induction m with
  | nil => rfl
  | cons c m ih =>
    obtain ⟨k, v⟩ := c
    unfold Memory.erase at ih ⊢
    by_cases h : k = a <;> simp [h, ih]

/-- Erasing one address leaves every other as it was. -/
theorem Memory.read_erase_ne (m : Memory) {a x : Nat} (hx : x ≠ a) : (m.erase a).read x = m.read x := by
  induction m with
  | nil => rfl
  | cons c m ih =>
    obtain ⟨k, v⟩ := c
    unfold Memory.erase at ih ⊢
    by_cases h : k = a
    · subst h; simp [ih, hx.symm]
    · simp [h, ih]

/-- No entry of an erased address is left. -/
theorem Memory.not_mem_erase (m : Memory) (a : Nat) : ∀ c ∈ m.erase a, c.1 ≠ a := by
  simp [Memory.erase]

/-- Inserting an address that has no entry. -/
theorem Memory.read_insert (m : Memory) (a x : Nat) (b : Byte) (h : ∀ c ∈ m, c.1 ≠ a) :
    (m.insert a b).read x = if a = x then b else m.read x := by
  induction m with
  | nil => rfl
  | cons c m ih =>
    obtain ⟨k, v⟩ := c
    have hk : k ≠ a := h (k, v) (by simp)
    have ih := ih fun c hc => h c (by simp [hc])
    by_cases hlt : a < k
    · simp [Memory.insert, hlt]
    · by_cases hkx : k = x
      · subst hkx; simp [Memory.insert, hlt, hk.symm]
      · simp [Memory.insert, hlt, hkx, ih]

/-- Reading after a write: the written address reads the byte, every other reads as before. -/
theorem Memory.read_write (m : Memory) (a x : Nat) (b : Byte) :
    (m.write a b).read x = if x = a then b else m.read x := by
  unfold Memory.write
  by_cases hx : x = a
  · subst hx
    split
    · simp [Memory.read_erase_self, *]
    · simp [Memory.read_insert _ _ _ _ (m.not_mem_erase x)]
  · split
    · rw [Memory.read_erase_ne _ hx]
    · rw [Memory.read_insert _ _ _ _ (m.not_mem_erase a), Memory.read_erase_ne _ hx, if_neg (Ne.symm hx)]

/-- Reading an address that no cell of a store names. -/
theorem Memory.read_writeCells_of_not_mem (m : Memory) (cs : List Host.Cell) (x : Nat) (h : ∀ c ∈ cs, c.1 ≠ x) :
    (m.writeCells cs).read x = m.read x := by
  induction cs generalizing m with
  | nil => rfl
  | cons c cs ih =>
    have hc : x ≠ c.1 := (h c (by simp)).symm
    rw [Memory.writeCells, ih _ fun d hd => h d (by simp [hd]), Memory.read_write, if_neg hc]

/-! ### The canonical form -/

/-- Erasing keeps the canonical form. -/
theorem Memory.wf_erase {m : Memory} (h : m.wf) (a : Nat) : (m.erase a).wf := by
  refine ⟨h.1.filter _, fun c hc => h.2 c ?_⟩
  exact (List.mem_filter.mp hc).1

/-- What an insertion lists. -/
theorem Memory.mem_insert {m : Memory} {a : Nat} {b : Byte} {c : Host.Cell} :
    c ∈ m.insert a b ↔ c = (a, b) ∨ c ∈ m := by
  induction m with
  | nil => simp [Memory.insert]
  | cons d m ih =>
    obtain ⟨k, v⟩ := d
    unfold Memory.insert
    split
    · simp
    · simp [ih]; tauto

/-- Inserting a listed byte at an address without an entry keeps the canonical form. -/
theorem Memory.wf_insert {m : Memory} (h : m.wf) {a : Nat} {b : Byte} (ha : a < 2 ^ 32) (hb : b ≠ Memory.unlisted)
    (hm : ∀ c ∈ m, c.1 ≠ a) : (m.insert a b).wf := by
  refine ⟨?_, fun c hc => ?_⟩
  · have hs := h.1
    clear h
    induction m with
    | nil => simp [Memory.insert]
    | cons d m ih =>
      obtain ⟨k, v⟩ := d
      have hk : k ≠ a := hm (k, v) (by simp)
      rw [List.pairwise_cons] at hs
      unfold Memory.insert
      split
      · next hlt =>
        refine List.pairwise_cons.mpr ⟨fun c hc => ?_, List.pairwise_cons.mpr hs⟩
        rcases List.mem_cons.mp hc with rfl | hc
        · exact hlt
        · exact hlt.trans (hs.1 c hc)
      · next hlt =>
        refine List.pairwise_cons.mpr ⟨fun c hc => ?_, ih (fun c hc => hm c (by simp [hc])) hs.2⟩
        rcases Memory.mem_insert.mp hc with rfl | hc
        · simp only; omega
        · exact hs.1 c hc
  · rcases Memory.mem_insert.mp hc with rfl | hc
    · exact ⟨ha, hb⟩
    · exact h.2 c hc

/-- A write at a physical address keeps the canonical form. -/
theorem Memory.wf_write {m : Memory} (h : m.wf) {a : Nat} (ha : a < 2 ^ 32) (b : Byte) : (m.write a b).wf := by
  unfold Memory.write
  split
  · exact Memory.wf_erase h a
  · next hb => exact Memory.wf_insert (Memory.wf_erase h a) ha hb (m.not_mem_erase a)

/-- A store at physical addresses keeps the canonical form. -/
theorem Memory.wf_writeCells {m : Memory} (h : m.wf) {cs : List Host.Cell} (hc : ∀ c ∈ cs, c.1 < 2 ^ 32) :
    (m.writeCells cs).wf := by
  induction cs generalizing m with
  | nil => exact h
  | cons c cs ih =>
    exact ih (Memory.wf_write h (hc c (by simp)) c.2) fun d hd => hc d (by simp [hd])

/-- The cells from a physical address up are at physical addresses. -/
theorem cellsFrom_lt (pa : Word) (bs : List Byte) : ∀ c ∈ cellsFrom pa bs, c.1 < 2 ^ 32 := by
  induction bs generalizing pa with
  | nil => simp [cellsFrom]
  | cons b bs ih =>
    intro c hc
    rcases List.mem_cons.mp hc with rfl | hc
    · exact pa.isLt
    · exact ih _ c hc

/-- Memory after reset, which lists nothing, has the canonical form. -/
theorem reset_mem_wf : State.reset.mem.wf := by simp [State.reset, Memory.wf]

/-! ### Sets of words (20 R98, R99) -/

/-- Membership as a proposition. -/
theorem WordSet.has_iff {ws : WordSet} {a : Nat} : ws.has a = true ↔ a ∈ ws := by
  simp [WordSet.has]

theorem WordSet.mem_erase {ws : WordSet} {a w : Nat} : w ∈ ws.erase a ↔ w ∈ ws ∧ w ≠ a := by
  simp [WordSet.erase]

theorem WordSet.mem_insert {ws : WordSet} {a w : Nat} : w ∈ ws.insert a ↔ w = a ∨ w ∈ ws := by
  induction ws with
  | nil => simp [WordSet.insert]
  | cons k ws ih =>
    unfold WordSet.insert
    split
    · simp
    · simp [ih]; tauto

theorem WordSet.mem_add {ws : WordSet} {a w : Nat} : w ∈ ws.add a ↔ w = a ∨ w ∈ ws := by
  by_cases h : w = a <;> simp [WordSet.add, WordSet.mem_insert, WordSet.mem_erase, h]

/-- Erasing keeps the canonical form. -/
theorem WordSet.wf_erase {ws : WordSet} (h : ws.wf) (a : Nat) : (ws.erase a).wf :=
  ⟨h.1.filter _, fun w hw => h.2 w (WordSet.mem_erase.mp hw).1⟩

/-- Adding an aligned physical word keeps the canonical form. -/
theorem WordSet.wf_add {ws : WordSet} (h : ws.wf) {a : Nat} (ha : a < 2 ^ 32) (h4 : a % 4 = 0) : (ws.add a).wf := by
  refine ⟨?_, fun w hw => ?_⟩
  · have hs := (WordSet.wf_erase h a).1
    have hn : ∀ w ∈ WordSet.erase ws a, w ≠ a := fun w hw => (WordSet.mem_erase.mp hw).2
    unfold WordSet.add
    generalize WordSet.erase ws a = us at hs hn
    induction us with
    | nil => simp [WordSet.insert]
    | cons k us ih =>
      have hk : k ≠ a := hn k (by simp)
      rw [List.pairwise_cons] at hs
      unfold WordSet.insert
      split
      · next hlt =>
        refine List.pairwise_cons.mpr ⟨fun w hw => ?_, List.pairwise_cons.mpr hs⟩
        rcases List.mem_cons.mp hw with rfl | hw
        · exact hlt
        · exact hlt.trans (hs.1 w hw)
      · next hlt =>
        refine List.pairwise_cons.mpr ⟨fun w hw => ?_, ih hs.2 fun w hw => hn w (by simp [hw])⟩
        rcases WordSet.mem_insert.mp hw with rfl | hw
        · omega
        · exact hs.1 w hw
  · rcases WordSet.mem_add.mp hw with rfl | hw
    · exact ⟨ha, h4⟩
    · exact h.2 w hw

end Sys2Proof.Machine
end

