-- ==== Sys2Proof/Laws/State.lean ====
section
/-! SUPPORT. One lemma per field per update of State, and the laws of the general registers, so that no proof unfolds a
record update. -/

namespace Sys2Proof.Machine

/-! ### General registers (10 R20, R21) -/

/-- Register 0 reads zero in every state (10 R21). -/
@[simp] theorem State.gpr_zero (s : State) : s.gpr 0#5 = 0#32 := rfl

/-- A general register other than register 0 reads its cell. -/
theorem State.gpr_of_ne (s : State) {r : Reg} (h : r ≠ 0#5) : s.gpr r = s.regs[r.toNat]'r.isLt := if_neg h

/-- Two states with the same cells read the same registers. -/
theorem State.gpr_congr {s t : State} (h : t.regs = s.regs) (r : Reg) : t.gpr r = s.gpr r := by
  unfold State.gpr; rw [h]

/-- Reading after a write: the written register, unless it is register 0, reads the value; every other is as before. -/
theorem State.gpr_setGpr (s : State) (r q : Reg) (v : Word) :
    (s.setGpr r v).gpr q = if q = r ∧ r ≠ 0#5 then v else s.gpr q := by
  unfold State.setGpr State.gpr
  by_cases hr : r = 0#5
  · simp [hr]
  · by_cases hq : q = r
    · subst hq; simp [hr]
    · have hn : r.toNat ≠ q.toNat := fun h => hq (BitVec.eq_of_toNat_eq h.symm)
      simp [hr, hq, Vector.getElem_set_ne _ _ hn]

/-- A write to register 0 changes nothing (10 R21). -/
@[simp] theorem State.setGpr_zero (s : State) (v : Word) : s.setGpr 0#5 v = s := rfl

/-! ### setGpr -/

@[simp] theorem State.setGpr_cfg (s : State) (r : Reg) (v : Word) : (s.setGpr r v).cfg = s.cfg := by
  unfold State.setGpr; split <;> rfl
@[simp] theorem State.setGpr_hi (s : State) (r : Reg) (v : Word) : (s.setGpr r v).hi = s.hi := by
  unfold State.setGpr; split <;> rfl
@[simp] theorem State.setGpr_lo (s : State) (r : Reg) (v : Word) : (s.setGpr r v).lo = s.lo := by
  unfold State.setGpr; split <;> rfl
@[simp] theorem State.setGpr_pc (s : State) (r : Reg) (v : Word) : (s.setGpr r v).pc = s.pc := by
  unfold State.setGpr; split <;> rfl
@[simp] theorem State.setGpr_npc (s : State) (r : Reg) (v : Word) : (s.setGpr r v).npc = s.npc := by
  unfold State.setGpr; split <;> rfl
@[simp] theorem State.setGpr_ds (s : State) (r : Reg) (v : Word) : (s.setGpr r v).ds = s.ds := by
  unfold State.setGpr; split <;> rfl
@[simp] theorem State.setGpr_index (s : State) (r : Reg) (v : Word) : (s.setGpr r v).index = s.index := by
  unfold State.setGpr; split <;> rfl
@[simp] theorem State.setGpr_entryLo (s : State) (r : Reg) (v : Word) : (s.setGpr r v).entryLo = s.entryLo := by
  unfold State.setGpr; split <;> rfl
@[simp] theorem State.setGpr_badVaddr (s : State) (r : Reg) (v : Word) : (s.setGpr r v).badVaddr = s.badVaddr := by
  unfold State.setGpr; split <;> rfl
@[simp] theorem State.setGpr_entryHi (s : State) (r : Reg) (v : Word) : (s.setGpr r v).entryHi = s.entryHi := by
  unfold State.setGpr; split <;> rfl
@[simp] theorem State.setGpr_sr (s : State) (r : Reg) (v : Word) : (s.setGpr r v).sr = s.sr := by
  unfold State.setGpr; split <;> rfl
@[simp] theorem State.setGpr_cause (s : State) (r : Reg) (v : Word) : (s.setGpr r v).cause = s.cause := by
  unfold State.setGpr; split <;> rfl
@[simp] theorem State.setGpr_epc (s : State) (r : Reg) (v : Word) : (s.setGpr r v).epc = s.epc := by
  unfold State.setGpr; split <;> rfl
@[simp] theorem State.setGpr_tlb (s : State) (r : Reg) (v : Word) : (s.setGpr r v).tlb = s.tlb := by
  unfold State.setGpr; split <;> rfl
@[simp] theorem State.setGpr_mem (s : State) (r : Reg) (v : Word) : (s.setGpr r v).mem = s.mem := by
  unfold State.setGpr; split <;> rfl
@[simp] theorem State.setGpr_storedWords (s : State) (r : Reg) (v : Word) : (s.setGpr r v).storedWords = s.storedWords := by
  unfold State.setGpr; split <;> rfl
@[simp] theorem State.setGpr_uncachedWords (s : State) (r : Reg) (v : Word) : (s.setGpr r v).uncachedWords = s.uncachedWords := by
  unfold State.setGpr; split <;> rfl
@[simp] theorem State.setGpr_pins (s : State) (r : Reg) (v : Word) : (s.setGpr r v).pins = s.pins := by
  unfold State.setGpr; split <;> rfl
@[simp] theorem State.setGpr_heldPins (s : State) (r : Reg) (v : Word) : (s.setGpr r v).heldPins = s.heldPins := by
  unfold State.setGpr; split <;> rfl
@[simp] theorem State.setGpr_io (s : State) (r : Reg) (v : Word) : (s.setGpr r v).io = s.io := by
  unfold State.setGpr; split <;> rfl
@[simp] theorem State.setGpr_draws (s : State) (r : Reg) (v : Word) : (s.setGpr r v).draws = s.draws := by
  unfold State.setGpr; split <;> rfl

/-! ### advance, advanceTo (10 R27 step 7) -/

@[simp] theorem State.advance_cfg (s : State) : s.advance.cfg = s.cfg := rfl
@[simp] theorem State.advance_regs (s : State) : s.advance.regs = s.regs := rfl
@[simp] theorem State.advance_hi (s : State) : s.advance.hi = s.hi := rfl
@[simp] theorem State.advance_lo (s : State) : s.advance.lo = s.lo := rfl
@[simp] theorem State.advance_pc (s : State) : s.advance.pc = s.npc := rfl
@[simp] theorem State.advance_npc (s : State) : s.advance.npc = s.npc + 4#32 := rfl
@[simp] theorem State.advance_ds (s : State) : s.advance.ds = false := rfl
@[simp] theorem State.advance_index (s : State) : s.advance.index = s.index := rfl
@[simp] theorem State.advance_entryLo (s : State) : s.advance.entryLo = s.entryLo := rfl
@[simp] theorem State.advance_badVaddr (s : State) : s.advance.badVaddr = s.badVaddr := rfl
@[simp] theorem State.advance_entryHi (s : State) : s.advance.entryHi = s.entryHi := rfl
@[simp] theorem State.advance_sr (s : State) : s.advance.sr = s.sr := rfl
@[simp] theorem State.advance_cause (s : State) : s.advance.cause = s.cause := rfl
@[simp] theorem State.advance_epc (s : State) : s.advance.epc = s.epc := rfl
@[simp] theorem State.advance_tlb (s : State) : s.advance.tlb = s.tlb := rfl
@[simp] theorem State.advance_mem (s : State) : s.advance.mem = s.mem := rfl
@[simp] theorem State.advance_storedWords (s : State) : s.advance.storedWords = s.storedWords := rfl
@[simp] theorem State.advance_uncachedWords (s : State) : s.advance.uncachedWords = s.uncachedWords := rfl
@[simp] theorem State.advance_pins (s : State) : s.advance.pins = s.pins := rfl
@[simp] theorem State.advance_heldPins (s : State) : s.advance.heldPins = s.heldPins := rfl
@[simp] theorem State.advance_io (s : State) : s.advance.io = s.io := rfl
@[simp] theorem State.advance_draws (s : State) : s.advance.draws = s.draws := rfl

@[simp] theorem State.advance_gpr (s : State) (r : Reg) : s.advance.gpr r = s.gpr r := rfl

@[simp] theorem State.advanceTo_cfg (s : State) (target : Option Word) : (s.advanceTo target).cfg = s.cfg := rfl
@[simp] theorem State.advanceTo_regs (s : State) (target : Option Word) : (s.advanceTo target).regs = s.regs := rfl
@[simp] theorem State.advanceTo_hi (s : State) (target : Option Word) : (s.advanceTo target).hi = s.hi := rfl
@[simp] theorem State.advanceTo_lo (s : State) (target : Option Word) : (s.advanceTo target).lo = s.lo := rfl
@[simp] theorem State.advanceTo_pc (s : State) (target : Option Word) : (s.advanceTo target).pc = s.npc := rfl
@[simp] theorem State.advanceTo_npc (s : State) (target : Option Word) : (s.advanceTo target).npc = target.getD (s.npc + 4#32) := rfl
@[simp] theorem State.advanceTo_ds (s : State) (target : Option Word) : (s.advanceTo target).ds = true := rfl
@[simp] theorem State.advanceTo_index (s : State) (target : Option Word) : (s.advanceTo target).index = s.index := rfl
@[simp] theorem State.advanceTo_entryLo (s : State) (target : Option Word) : (s.advanceTo target).entryLo = s.entryLo := rfl
@[simp] theorem State.advanceTo_badVaddr (s : State) (target : Option Word) : (s.advanceTo target).badVaddr = s.badVaddr := rfl
@[simp] theorem State.advanceTo_entryHi (s : State) (target : Option Word) : (s.advanceTo target).entryHi = s.entryHi := rfl
@[simp] theorem State.advanceTo_sr (s : State) (target : Option Word) : (s.advanceTo target).sr = s.sr := rfl
@[simp] theorem State.advanceTo_cause (s : State) (target : Option Word) : (s.advanceTo target).cause = s.cause := rfl
@[simp] theorem State.advanceTo_epc (s : State) (target : Option Word) : (s.advanceTo target).epc = s.epc := rfl
@[simp] theorem State.advanceTo_tlb (s : State) (target : Option Word) : (s.advanceTo target).tlb = s.tlb := rfl
@[simp] theorem State.advanceTo_mem (s : State) (target : Option Word) : (s.advanceTo target).mem = s.mem := rfl
@[simp] theorem State.advanceTo_storedWords (s : State) (target : Option Word) : (s.advanceTo target).storedWords = s.storedWords := rfl
@[simp] theorem State.advanceTo_uncachedWords (s : State) (target : Option Word) : (s.advanceTo target).uncachedWords = s.uncachedWords := rfl
@[simp] theorem State.advanceTo_pins (s : State) (target : Option Word) : (s.advanceTo target).pins = s.pins := rfl
@[simp] theorem State.advanceTo_heldPins (s : State) (target : Option Word) : (s.advanceTo target).heldPins = s.heldPins := rfl
@[simp] theorem State.advanceTo_io (s : State) (target : Option Word) : (s.advanceTo target).io = s.io := rfl
@[simp] theorem State.advanceTo_draws (s : State) (target : Option Word) : (s.advanceTo target).draws = s.draws := rfl

@[simp] theorem State.advanceTo_gpr (s : State) (target : Option Word) (r : Reg) : (s.advanceTo target).gpr r = s.gpr r := rfl

/-! ### Exceptions (60 R270, 45 R251, 70 R300) -/

@[simp] theorem State.trapEntry_cfg (s : State) (e : Exc) : (s.trapEntry e).cfg = s.cfg := rfl
@[simp] theorem State.trapEntry_regs (s : State) (e : Exc) : (s.trapEntry e).regs = s.regs := rfl
@[simp] theorem State.trapEntry_hi (s : State) (e : Exc) : (s.trapEntry e).hi = s.hi := rfl
@[simp] theorem State.trapEntry_lo (s : State) (e : Exc) : (s.trapEntry e).lo = s.lo := rfl
@[simp] theorem State.trapEntry_pc (s : State) (e : Exc) : (s.trapEntry e).pc = 0xBFC00180#32 := rfl
@[simp] theorem State.trapEntry_npc (s : State) (e : Exc) : (s.trapEntry e).npc = 0xBFC00184#32 := rfl
@[simp] theorem State.trapEntry_ds (s : State) (e : Exc) : (s.trapEntry e).ds = false := rfl
@[simp] theorem State.trapEntry_index (s : State) (e : Exc) : (s.trapEntry e).index = s.index := rfl
@[simp] theorem State.trapEntry_entryLo (s : State) (e : Exc) : (s.trapEntry e).entryLo = s.entryLo := rfl
@[simp] theorem State.trapEntry_badVaddr (s : State) (e : Exc) : (s.trapEntry e).badVaddr = badVaddrAfter s.badVaddr e := rfl
@[simp] theorem State.trapEntry_entryHi (s : State) (e : Exc) : (s.trapEntry e).entryHi = s.entryHi := rfl
@[simp] theorem State.trapEntry_sr (s : State) (e : Exc) : (s.trapEntry e).sr = s.sr.push := rfl
@[simp] theorem State.trapEntry_cause (s : State) (e : Exc) : (s.trapEntry e).cause = ⟨s.ds, excCode s.cfg e⟩ := rfl
@[simp] theorem State.trapEntry_epc (s : State) (e : Exc) : (s.trapEntry e).epc = if s.ds then s.pc - 4#32 else s.pc := rfl
@[simp] theorem State.trapEntry_tlb (s : State) (e : Exc) : (s.trapEntry e).tlb = s.tlb := rfl
@[simp] theorem State.trapEntry_mem (s : State) (e : Exc) : (s.trapEntry e).mem = s.mem := rfl
@[simp] theorem State.trapEntry_storedWords (s : State) (e : Exc) : (s.trapEntry e).storedWords = s.storedWords := rfl
@[simp] theorem State.trapEntry_uncachedWords (s : State) (e : Exc) : (s.trapEntry e).uncachedWords = s.uncachedWords := rfl
@[simp] theorem State.trapEntry_pins (s : State) (e : Exc) : (s.trapEntry e).pins = s.pins := rfl
@[simp] theorem State.trapEntry_heldPins (s : State) (e : Exc) : (s.trapEntry e).heldPins = s.heldPins := rfl
@[simp] theorem State.trapEntry_io (s : State) (e : Exc) : (s.trapEntry e).io = s.io := rfl
@[simp] theorem State.trapEntry_draws (s : State) (e : Exc) : (s.trapEntry e).draws = s.draws := rfl

@[simp] theorem State.trapEntry_gpr (s : State) (e : Exc) (r : Reg) : (s.trapEntry e).gpr r = s.gpr r := rfl

@[simp] theorem State.returnFromException_cfg (s : State) : s.returnFromException.cfg = s.cfg := rfl
@[simp] theorem State.returnFromException_regs (s : State) : s.returnFromException.regs = s.regs := rfl
@[simp] theorem State.returnFromException_hi (s : State) : s.returnFromException.hi = s.hi := rfl
@[simp] theorem State.returnFromException_lo (s : State) : s.returnFromException.lo = s.lo := rfl
@[simp] theorem State.returnFromException_pc (s : State) : s.returnFromException.pc = s.pc := rfl
@[simp] theorem State.returnFromException_npc (s : State) : s.returnFromException.npc = s.npc := rfl
@[simp] theorem State.returnFromException_ds (s : State) : s.returnFromException.ds = s.ds := rfl
@[simp] theorem State.returnFromException_index (s : State) : s.returnFromException.index = s.index := rfl
@[simp] theorem State.returnFromException_entryLo (s : State) : s.returnFromException.entryLo = s.entryLo := rfl
@[simp] theorem State.returnFromException_badVaddr (s : State) : s.returnFromException.badVaddr = s.badVaddr := rfl
@[simp] theorem State.returnFromException_entryHi (s : State) : s.returnFromException.entryHi = s.entryHi := rfl
@[simp] theorem State.returnFromException_sr (s : State) : s.returnFromException.sr = s.sr.pop := rfl
@[simp] theorem State.returnFromException_cause (s : State) : s.returnFromException.cause = s.cause := rfl
@[simp] theorem State.returnFromException_epc (s : State) : s.returnFromException.epc = s.epc := rfl
@[simp] theorem State.returnFromException_tlb (s : State) : s.returnFromException.tlb = s.tlb := rfl
@[simp] theorem State.returnFromException_mem (s : State) : s.returnFromException.mem = s.mem := rfl
@[simp] theorem State.returnFromException_storedWords (s : State) : s.returnFromException.storedWords = s.storedWords := rfl
@[simp] theorem State.returnFromException_uncachedWords (s : State) : s.returnFromException.uncachedWords = s.uncachedWords := rfl
@[simp] theorem State.returnFromException_pins (s : State) : s.returnFromException.pins = s.pins := rfl
@[simp] theorem State.returnFromException_heldPins (s : State) : s.returnFromException.heldPins = s.heldPins := rfl
@[simp] theorem State.returnFromException_io (s : State) : s.returnFromException.io = s.io := rfl
@[simp] theorem State.returnFromException_draws (s : State) : s.returnFromException.draws = s.draws := rfl

@[simp] theorem State.returnFromException_gpr (s : State) (r : Reg) : s.returnFromException.gpr r = s.gpr r := rfl

@[simp] theorem State.resetEvent_cfg (s : State) : s.resetEvent.cfg = s.cfg := rfl
@[simp] theorem State.resetEvent_regs (s : State) : s.resetEvent.regs = s.regs := rfl
@[simp] theorem State.resetEvent_hi (s : State) : s.resetEvent.hi = s.hi := rfl
@[simp] theorem State.resetEvent_lo (s : State) : s.resetEvent.lo = s.lo := rfl
@[simp] theorem State.resetEvent_pc (s : State) : s.resetEvent.pc = 0xBFC00000#32 := rfl
@[simp] theorem State.resetEvent_npc (s : State) : s.resetEvent.npc = 0xBFC00004#32 := rfl
@[simp] theorem State.resetEvent_ds (s : State) : s.resetEvent.ds = false := rfl
@[simp] theorem State.resetEvent_index (s : State) : s.resetEvent.index = s.index := rfl
@[simp] theorem State.resetEvent_entryLo (s : State) : s.resetEvent.entryLo = s.entryLo := rfl
@[simp] theorem State.resetEvent_badVaddr (s : State) : s.resetEvent.badVaddr = s.badVaddr := rfl
@[simp] theorem State.resetEvent_entryHi (s : State) : s.resetEvent.entryHi = s.entryHi := rfl
@[simp] theorem State.resetEvent_sr (s : State) : s.resetEvent.sr = ⟨s.sr.ieo, s.sr.iep, false⟩ := rfl
@[simp] theorem State.resetEvent_cause (s : State) : s.resetEvent.cause = s.cause := rfl
@[simp] theorem State.resetEvent_epc (s : State) : s.resetEvent.epc = s.epc := rfl
@[simp] theorem State.resetEvent_tlb (s : State) : s.resetEvent.tlb = s.tlb := rfl
@[simp] theorem State.resetEvent_mem (s : State) : s.resetEvent.mem = s.mem := rfl
@[simp] theorem State.resetEvent_storedWords (s : State) : s.resetEvent.storedWords = [] := rfl
@[simp] theorem State.resetEvent_uncachedWords (s : State) : s.resetEvent.uncachedWords = [] := rfl
@[simp] theorem State.resetEvent_pins (s : State) : s.resetEvent.pins = s.pins := rfl
@[simp] theorem State.resetEvent_heldPins (s : State) : s.resetEvent.heldPins = s.heldPins := rfl
@[simp] theorem State.resetEvent_io (s : State) : s.resetEvent.io = s.io := rfl
@[simp] theorem State.resetEvent_draws (s : State) : s.resetEvent.draws = s.draws := rfl

@[simp] theorem State.resetEvent_gpr (s : State) (r : Reg) : s.resetEvent.gpr r = s.gpr r := rfl

/-! ### Stores and inputs (20 R98, R99) -/

@[simp] theorem State.noteStore_cfg (s : State) (p : PhysAddr) : (s.noteStore p).cfg = s.cfg := rfl
@[simp] theorem State.noteStore_regs (s : State) (p : PhysAddr) : (s.noteStore p).regs = s.regs := rfl
@[simp] theorem State.noteStore_hi (s : State) (p : PhysAddr) : (s.noteStore p).hi = s.hi := rfl
@[simp] theorem State.noteStore_lo (s : State) (p : PhysAddr) : (s.noteStore p).lo = s.lo := rfl
@[simp] theorem State.noteStore_pc (s : State) (p : PhysAddr) : (s.noteStore p).pc = s.pc := rfl
@[simp] theorem State.noteStore_npc (s : State) (p : PhysAddr) : (s.noteStore p).npc = s.npc := rfl
@[simp] theorem State.noteStore_ds (s : State) (p : PhysAddr) : (s.noteStore p).ds = s.ds := rfl
@[simp] theorem State.noteStore_index (s : State) (p : PhysAddr) : (s.noteStore p).index = s.index := rfl
@[simp] theorem State.noteStore_entryLo (s : State) (p : PhysAddr) : (s.noteStore p).entryLo = s.entryLo := rfl
@[simp] theorem State.noteStore_badVaddr (s : State) (p : PhysAddr) : (s.noteStore p).badVaddr = s.badVaddr := rfl
@[simp] theorem State.noteStore_entryHi (s : State) (p : PhysAddr) : (s.noteStore p).entryHi = s.entryHi := rfl
@[simp] theorem State.noteStore_sr (s : State) (p : PhysAddr) : (s.noteStore p).sr = s.sr := rfl
@[simp] theorem State.noteStore_cause (s : State) (p : PhysAddr) : (s.noteStore p).cause = s.cause := rfl
@[simp] theorem State.noteStore_epc (s : State) (p : PhysAddr) : (s.noteStore p).epc = s.epc := rfl
@[simp] theorem State.noteStore_tlb (s : State) (p : PhysAddr) : (s.noteStore p).tlb = s.tlb := rfl
@[simp] theorem State.noteStore_mem (s : State) (p : PhysAddr) : (s.noteStore p).mem = s.mem := rfl
@[simp] theorem State.noteStore_storedWords (s : State) (p : PhysAddr) : (s.noteStore p).storedWords = s.storedWords.add (wordOf p.pa).toNat := rfl
@[simp] theorem State.noteStore_uncachedWords (s : State) (p : PhysAddr) : (s.noteStore p).uncachedWords = 
      if p.cached then s.uncachedWords.erase (wordOf p.pa).toNat else s.uncachedWords.add (wordOf p.pa).toNat := rfl
@[simp] theorem State.noteStore_pins (s : State) (p : PhysAddr) : (s.noteStore p).pins = s.pins := rfl
@[simp] theorem State.noteStore_heldPins (s : State) (p : PhysAddr) : (s.noteStore p).heldPins = s.heldPins := rfl
@[simp] theorem State.noteStore_io (s : State) (p : PhysAddr) : (s.noteStore p).io = s.io := rfl
@[simp] theorem State.noteStore_draws (s : State) (p : PhysAddr) : (s.noteStore p).draws = s.draws := rfl

@[simp] theorem State.noteStore_gpr (s : State) (p : PhysAddr) (r : Reg) : (s.noteStore p).gpr r = s.gpr r := rfl

@[simp] theorem State.popPins_cfg (s : State) : s.popPins.cfg = s.cfg := rfl
@[simp] theorem State.popPins_regs (s : State) : s.popPins.regs = s.regs := rfl
@[simp] theorem State.popPins_hi (s : State) : s.popPins.hi = s.hi := rfl
@[simp] theorem State.popPins_lo (s : State) : s.popPins.lo = s.lo := rfl
@[simp] theorem State.popPins_pc (s : State) : s.popPins.pc = s.pc := rfl
@[simp] theorem State.popPins_npc (s : State) : s.popPins.npc = s.npc := rfl
@[simp] theorem State.popPins_ds (s : State) : s.popPins.ds = s.ds := rfl
@[simp] theorem State.popPins_index (s : State) : s.popPins.index = s.index := rfl
@[simp] theorem State.popPins_entryLo (s : State) : s.popPins.entryLo = s.entryLo := rfl
@[simp] theorem State.popPins_badVaddr (s : State) : s.popPins.badVaddr = s.badVaddr := rfl
@[simp] theorem State.popPins_entryHi (s : State) : s.popPins.entryHi = s.entryHi := rfl
@[simp] theorem State.popPins_sr (s : State) : s.popPins.sr = s.sr := rfl
@[simp] theorem State.popPins_cause (s : State) : s.popPins.cause = s.cause := rfl
@[simp] theorem State.popPins_epc (s : State) : s.popPins.epc = s.epc := rfl
@[simp] theorem State.popPins_tlb (s : State) : s.popPins.tlb = s.tlb := rfl
@[simp] theorem State.popPins_mem (s : State) : s.popPins.mem = s.mem := rfl
@[simp] theorem State.popPins_storedWords (s : State) : s.popPins.storedWords = s.storedWords := rfl
@[simp] theorem State.popPins_uncachedWords (s : State) : s.popPins.uncachedWords = s.uncachedWords := rfl
@[simp] theorem State.popPins_pins (s : State) : s.popPins.pins = s.pins.tail := rfl
@[simp] theorem State.popPins_heldPins (s : State) : s.popPins.heldPins = s.heldPins := rfl
@[simp] theorem State.popPins_io (s : State) : s.popPins.io = s.io := rfl
@[simp] theorem State.popPins_draws (s : State) : s.popPins.draws = s.draws := rfl

@[simp] theorem State.popPins_gpr (s : State) (r : Reg) : s.popPins.gpr r = s.gpr r := rfl

/-! ### The TLB instructions (45 R249, R250) -/

@[simp] theorem State.tlbRead_cfg (s : State) : s.tlbRead.cfg = s.cfg := rfl
@[simp] theorem State.tlbRead_regs (s : State) : s.tlbRead.regs = s.regs := rfl
@[simp] theorem State.tlbRead_hi (s : State) : s.tlbRead.hi = s.hi := rfl
@[simp] theorem State.tlbRead_lo (s : State) : s.tlbRead.lo = s.lo := rfl
@[simp] theorem State.tlbRead_pc (s : State) : s.tlbRead.pc = s.pc := rfl
@[simp] theorem State.tlbRead_npc (s : State) : s.tlbRead.npc = s.npc := rfl
@[simp] theorem State.tlbRead_ds (s : State) : s.tlbRead.ds = s.ds := rfl
@[simp] theorem State.tlbRead_index (s : State) : s.tlbRead.index = s.index := rfl
@[simp] theorem State.tlbRead_entryLo (s : State) : s.tlbRead.entryLo = ⟨(s.tlb[s.index.toNat]'s.index.isLt).pfn, (s.tlb[s.index.toNat]'s.index.isLt).v⟩ := rfl
@[simp] theorem State.tlbRead_badVaddr (s : State) : s.tlbRead.badVaddr = s.badVaddr := rfl
@[simp] theorem State.tlbRead_entryHi (s : State) : s.tlbRead.entryHi = (s.tlb[s.index.toNat]'s.index.isLt).vpn := rfl
@[simp] theorem State.tlbRead_sr (s : State) : s.tlbRead.sr = s.sr := rfl
@[simp] theorem State.tlbRead_cause (s : State) : s.tlbRead.cause = s.cause := rfl
@[simp] theorem State.tlbRead_epc (s : State) : s.tlbRead.epc = s.epc := rfl
@[simp] theorem State.tlbRead_tlb (s : State) : s.tlbRead.tlb = s.tlb := rfl
@[simp] theorem State.tlbRead_mem (s : State) : s.tlbRead.mem = s.mem := rfl
@[simp] theorem State.tlbRead_storedWords (s : State) : s.tlbRead.storedWords = s.storedWords := rfl
@[simp] theorem State.tlbRead_uncachedWords (s : State) : s.tlbRead.uncachedWords = s.uncachedWords := rfl
@[simp] theorem State.tlbRead_pins (s : State) : s.tlbRead.pins = s.pins := rfl
@[simp] theorem State.tlbRead_heldPins (s : State) : s.tlbRead.heldPins = s.heldPins := rfl
@[simp] theorem State.tlbRead_io (s : State) : s.tlbRead.io = s.io := rfl
@[simp] theorem State.tlbRead_draws (s : State) : s.tlbRead.draws = s.draws := rfl

@[simp] theorem State.tlbRead_gpr (s : State) (r : Reg) : s.tlbRead.gpr r = s.gpr r := rfl

@[simp] theorem State.tlbWrite_cfg (s : State) : s.tlbWrite.cfg = s.cfg := rfl
@[simp] theorem State.tlbWrite_regs (s : State) : s.tlbWrite.regs = s.regs := rfl
@[simp] theorem State.tlbWrite_hi (s : State) : s.tlbWrite.hi = s.hi := rfl
@[simp] theorem State.tlbWrite_lo (s : State) : s.tlbWrite.lo = s.lo := rfl
@[simp] theorem State.tlbWrite_pc (s : State) : s.tlbWrite.pc = s.pc := rfl
@[simp] theorem State.tlbWrite_npc (s : State) : s.tlbWrite.npc = s.npc := rfl
@[simp] theorem State.tlbWrite_ds (s : State) : s.tlbWrite.ds = s.ds := rfl
@[simp] theorem State.tlbWrite_index (s : State) : s.tlbWrite.index = s.index := rfl
@[simp] theorem State.tlbWrite_entryLo (s : State) : s.tlbWrite.entryLo = s.entryLo := rfl
@[simp] theorem State.tlbWrite_badVaddr (s : State) : s.tlbWrite.badVaddr = s.badVaddr := rfl
@[simp] theorem State.tlbWrite_entryHi (s : State) : s.tlbWrite.entryHi = s.entryHi := rfl
@[simp] theorem State.tlbWrite_sr (s : State) : s.tlbWrite.sr = s.sr := rfl
@[simp] theorem State.tlbWrite_cause (s : State) : s.tlbWrite.cause = s.cause := rfl
@[simp] theorem State.tlbWrite_epc (s : State) : s.tlbWrite.epc = s.epc := rfl
@[simp] theorem State.tlbWrite_tlb (s : State) : s.tlbWrite.tlb = 
      s.tlb.set s.index.toNat ⟨s.entryHi, s.entryLo.pfn, s.entryLo.v⟩ s.index.isLt := rfl
@[simp] theorem State.tlbWrite_mem (s : State) : s.tlbWrite.mem = s.mem := rfl
@[simp] theorem State.tlbWrite_storedWords (s : State) : s.tlbWrite.storedWords = s.storedWords := rfl
@[simp] theorem State.tlbWrite_uncachedWords (s : State) : s.tlbWrite.uncachedWords = s.uncachedWords := rfl
@[simp] theorem State.tlbWrite_pins (s : State) : s.tlbWrite.pins = s.pins := rfl
@[simp] theorem State.tlbWrite_heldPins (s : State) : s.tlbWrite.heldPins = s.heldPins := rfl
@[simp] theorem State.tlbWrite_io (s : State) : s.tlbWrite.io = s.io := rfl
@[simp] theorem State.tlbWrite_draws (s : State) : s.tlbWrite.draws = s.draws := rfl

@[simp] theorem State.tlbWrite_gpr (s : State) (r : Reg) : s.tlbWrite.gpr r = s.gpr r := rfl

/-! ### Translation depends on the TLB alone (20 R80) -/

/-- Two states with the same TLB translate alike. -/
theorem State.translate_congr {s t : State} (h : t.tlb = s.tlb) (la : Word) : t.translate la = s.translate la := by
  unfold State.translate State.tlbEntryFor; rw [h]

@[simp] theorem State.setGpr_translate (s : State) (r : Reg) (v : Word) (la : Word) :
    (s.setGpr r v).translate la = s.translate la := State.translate_congr (by simp) la
@[simp] theorem State.advance_translate (s : State) (la : Word) :
    s.advance.translate la = s.translate la := State.translate_congr (by simp) la
@[simp] theorem State.advanceTo_translate (s : State) (target : Option Word) (la : Word) :
    (s.advanceTo target).translate la = s.translate la := State.translate_congr (by simp) la
@[simp] theorem State.trapEntry_translate (s : State) (e : Exc) (la : Word) :
    (s.trapEntry e).translate la = s.translate la := State.translate_congr (by simp) la
@[simp] theorem State.noteStore_translate (s : State) (p : PhysAddr) (la : Word) :
    (s.noteStore p).translate la = s.translate la := State.translate_congr (by simp) la
@[simp] theorem State.popPins_translate (s : State) (la : Word) :
    s.popPins.translate la = s.translate la := State.translate_congr (by simp) la

/-! ### The status stack (10 R39) -/

@[simp] theorem StatusReg.push_ieo (r : StatusReg) : r.push.ieo = r.iep := rfl
@[simp] theorem StatusReg.push_iep (r : StatusReg) : r.push.iep = r.iec := rfl
@[simp] theorem StatusReg.push_iec (r : StatusReg) : r.push.iec = false := rfl
@[simp] theorem StatusReg.pop_ieo (r : StatusReg) : r.pop.ieo = r.ieo := rfl
@[simp] theorem StatusReg.pop_iep (r : StatusReg) : r.pop.iep = r.ieo := rfl
@[simp] theorem StatusReg.pop_iec (r : StatusReg) : r.pop.iec = r.iep := rfl

end Sys2Proof.Machine
end

