-- ==== Sys2Proof/Laws/Ops.lean ====
section
/-! SUPPORT. For each shared operation, one lemma that says once everything it can do. Later proofs cite these and do not
unfold the operation. -/

namespace Sys2Proof.Machine

/-! ### Physical reads -/

/-- What a physical read can answer: memory's bytes with nothing changed, or a device's answer, recorded. -/
theorem readPhys_ok {s t : State} {p : PhysAddr} {n : Nat} {blind : WordSet} {f : Fault} {v : Word}
    (h : s.readPhys p n blind f = .ok v t) :
    ((kindAt s.cfg p.pa = some .ram ∨ kindAt s.cfg p.pa = some .rom) ∧
        (s.cfg.strictCache && p.cached && blind.has (wordOf p.pa).toNat) = false ∧
        v = littleEndian (s.mem.bytesAt p.pa n) ∧ t = s) ∨
      (kindAt s.cfg p.pa = some .io ∧ p.cached = false ∧ v = littleEndian (bytesOf n (Config.ioAnswer s.draws)) ∧
        t = { s with draws := s.draws + 1, io := .read p.pa.toNat n :: s.io }) := by
  unfold State.readPhys at h
  split at h
  · cases h
  · next hk =>
    split at h
    · cases h
    · next hc => cases h; exact .inr ⟨hk, by simpa using hc, rfl, rfl⟩
  · next hk =>
    split at h
    · cases h
    · next hc => cases h; exact .inl ⟨.inl hk, by simpa using hc, rfl, rfl⟩
  · next hk =>
    split at h
    · cases h
    · next hc => cases h; exact .inl ⟨.inr hk, by simpa using hc, rfl, rfl⟩

/-- A physical read never raises an exception (20 R91: no bus error). -/
theorem readPhys_ne_raise (s : State) (p : PhysAddr) (n : Nat) (blind : WordSet) (f : Fault) (e : Exc) :
    s.readPhys p n blind f ≠ .raise e := by
  unfold State.readPhys
  split <;> (try split) <;> simp

/-- A read of memory that STRICT_CACHE does not stop. -/
theorem readPhys_memory {s : State} {p : PhysAddr} (n : Nat) {blind : WordSet} (f : Fault)
    (hk : kindAt s.cfg p.pa = some .ram ∨ kindAt s.cfg p.pa = some .rom)
    (hb : (s.cfg.strictCache && p.cached && blind.has (wordOf p.pa).toNat) = false) :
    s.readPhys p n blind f = .ok (littleEndian (s.mem.bytesAt p.pa n)) s := by
  rcases hk with hk | hk <;> simp [State.readPhys, hk, hb]

/-- What a read changes at most: the record of device accesses and the count of free values. -/
structure ReadFrame (s t : State) : Prop where
  cfg : t.cfg = s.cfg
  regs : t.regs = s.regs
  hi : t.hi = s.hi
  lo : t.lo = s.lo
  pc : t.pc = s.pc
  npc : t.npc = s.npc
  ds : t.ds = s.ds
  index : t.index = s.index
  entryLo : t.entryLo = s.entryLo
  badVaddr : t.badVaddr = s.badVaddr
  entryHi : t.entryHi = s.entryHi
  sr : t.sr = s.sr
  cause : t.cause = s.cause
  epc : t.epc = s.epc
  tlb : t.tlb = s.tlb
  mem : t.mem = s.mem
  storedWords : t.storedWords = s.storedWords
  uncachedWords : t.uncachedWords = s.uncachedWords
  pins : t.pins = s.pins
  heldPins : t.heldPins = s.heldPins

/-- A physical read leaves all but the device record and the count of free values. -/
theorem readPhys_frame {s t : State} {p : PhysAddr} {n : Nat} {blind : WordSet} {f : Fault} {v : Word}
    (h : s.readPhys p n blind f = .ok v t) : ReadFrame s t := by
  obtain ⟨-, -, -, rfl⟩ | ⟨-, -, -, rfl⟩ := readPhys_ok h <;> constructor <;> rfl

/-! ### Fetch and logical reads -/

/-- What a fetch can answer. -/
theorem fetch_ok {s t : State} {w : Word} (h : s.fetch = .ok w t) :
    ∃ p, s.translate s.pc = some p ∧ s.readPhys p 4 s.storedWords .ifetchAfterStore = .ok w t := by
  unfold State.fetch at h
  split at h
  · cases h
  · next p hp => exact ⟨p, hp, h⟩

/-- A fetch raises a TLB miss of pc, exactly where pc does not translate. -/
theorem fetch_raise {s : State} {e : Exc} (h : s.fetch = .raise e) : s.translate s.pc = none ∧ e = .tlbMiss s.pc := by
  unfold State.fetch at h
  split at h
  · next hp => cases h; exact ⟨hp, rfl⟩
  · exact absurd h (readPhys_ne_raise _ _ _ _ _ _)

theorem fetch_frame {s t : State} {w : Word} (h : s.fetch = .ok w t) : ReadFrame s t :=
  let ⟨_, _, h⟩ := fetch_ok h
  readPhys_frame h

/-- What MemRead can answer. -/
theorem memRead_ok {s t : State} {la v : Word} {n : Nat} (h : s.memRead la n = .ok v t) :
    ∃ p, s.translate la = some p ∧
      s.readPhys p n s.uncachedWords .cachedLoadAfterUncachedStore = .ok v t := by
  unfold State.memRead at h
  split at h
  · cases h
  · next p hp => exact ⟨p, hp, h⟩

/-- MemRead raises a TLB miss of its address, exactly where it does not translate. -/
theorem memRead_raise {s : State} {la : Word} {n : Nat} {e : Exc} (h : s.memRead la n = .raise e) :
    s.translate la = none ∧ e = .tlbMiss la := by
  unfold State.memRead at h
  split at h
  · next hp => cases h; exact ⟨hp, rfl⟩
  · exact absurd h (readPhys_ne_raise _ _ _ _ _ _)

/-- What the read of LWL and LWR can answer. -/
theorem memReadWordOf_ok {s t : State} {la v : Word} (h : s.memReadWordOf la = .ok v t) :
    ∃ p, s.translate la = some p ∧
      s.readPhys ⟨wordOf p.pa, p.cached⟩ 4 s.uncachedWords .cachedLoadAfterUncachedStore = .ok v t := by
  unfold State.memReadWordOf at h
  split at h
  · cases h
  · next p hp => exact ⟨p, hp, h⟩

/-- The read of LWL and LWR raises a TLB miss of the effective address, low bits intact (40 section 4). -/
theorem memReadWordOf_raise {s : State} {la : Word} {e : Exc} (h : s.memReadWordOf la = .raise e) :
    s.translate la = none ∧ e = .tlbMiss la := by
  unfold State.memReadWordOf at h
  split at h
  · next hp => cases h; exact ⟨hp, rfl⟩
  · exact absurd h (readPhys_ne_raise _ _ _ _ _ _)

/-! ### Physical writes -/

/-- What a physical write can answer: RAM written, or a device written and the access recorded; noted in both cases. -/
theorem writePhys_ok {s t : State} {p : PhysAddr} {cells : List Host.Cell} {u : Unit}
    (h : s.writePhys p cells = .ok u t) :
    (kindAt s.cfg p.pa = some .ram ∧ t = { s.noteStore p with mem := s.mem.writeCells cells }) ∨
      (kindAt s.cfg p.pa = some .io ∧ p.cached = false ∧ t = { s.noteStore p with io := .write cells :: s.io }) := by
  unfold State.writePhys at h
  split at h
  · cases h
  · cases h
  · next hk =>
    split at h
    · cases h
    · next hc => cases h; exact .inr ⟨hk, by simpa using hc, rfl⟩
  · next hk => cases h; exact .inl ⟨hk, rfl⟩

theorem writePhys_ne_raise (s : State) (p : PhysAddr) (cells : List Host.Cell) (e : Exc) :
    s.writePhys p cells ≠ .raise e := by
  unfold State.writePhys
  split <;> (try split) <;> simp

/-- A write to RAM. -/
theorem writePhys_ram {s : State} {p : PhysAddr} (cells : List Host.Cell) (hk : kindAt s.cfg p.pa = some .ram) :
    s.writePhys p cells = .ok () { s.noteStore p with mem := s.mem.writeCells cells } := by
  simp [State.writePhys, hk]

/-- What MemWrite can answer. -/
theorem memWrite_ok {s t : State} {la v : Word} {n : Nat} {u : Unit} (h : s.memWrite la n v = .ok u t) :
    ∃ p, s.translate la = some p ∧ s.writePhys p (cellsFrom p.pa (bytesOf n v)) = .ok u t := by
  unfold State.memWrite at h
  split at h
  · cases h
  · next p hp => exact ⟨p, hp, h⟩

theorem memWrite_raise {s : State} {la v : Word} {n : Nat} {e : Exc} (h : s.memWrite la n v = .raise e) :
    s.translate la = none ∧ e = .tlbMiss la := by
  unfold State.memWrite at h
  split at h
  · next hp => cases h; exact ⟨hp, rfl⟩
  · exact absurd h (writePhys_ne_raise _ _ _ _)

/-! ### Taking an exception -/

/-- Trap entry, of whatever exception, is what the claims call it. -/
theorem trapEntry_tookTrap (s : State) (e : Exc) :
    TookTrap s (excCode s.cfg e) (badVaddrAfter s.badVaddr e) (s.trapEntry e) := by
  simp [TookTrap, SameRegs, SameHiLo, SameMemory, SameBytes, SameBlind, SameOutside, SameInputs]

/-! ### How instructions complete -/

/-- An instruction completes by going on from what its body wrote, or by taking its exception from where it began. -/
theorem complete_next {s t : State} {r : Res Unit} (h : s.complete r = .next t) :
    (∃ u, r = .ok () u ∧ t = u.advance) ∨ ∃ e, r = .raise e ∧ t = s.trapEntry e := by
  cases r with
  | ok v u => exact .inl ⟨u, rfl, by cases h; rfl⟩
  | raise e => exact .inr ⟨e, rfl, by cases h; rfl⟩
  | stop f => cases h

theorem intoGpr_ok {res : Res Word} {r : Reg} {f : Word → Word} {u : Unit} {t : State}
    (h : res.intoGpr r f = .ok u t) : ∃ v s, res = .ok v s ∧ t = s.setGpr r (f v) := by
  cases res with
  | ok v s => exact ⟨v, s, rfl, by cases h; rfl⟩
  | raise e => cases h
  | stop f => cases h

theorem intoGpr_raise {res : Res Word} {r : Reg} {f : Word → Word} {e : Exc}
    (h : res.intoGpr r f = .raise e) : res = .raise e := by
  cases res with
  | ok v s => cases h
  | raise e => cases h; rfl
  | stop f => cases h

/-- ADD, ADDI and SUB: the result is written, or an overflow is trapped. -/
theorem writeChecked_next {s t : State} {b : Bool} {r : Reg} {v : Word} (h : s.writeChecked b r v = .next t) :
    ((b = false ∨ s.cfg.overflowMode = .wrap) ∧ t = (s.setGpr r v).advance) ∨
      (b = true ∧ s.cfg.overflowMode = .trap ∧ t = s.trapEntry .overflow) := by
  unfold State.writeChecked at h
  split at h
  · next hb =>
    split at h
    · cases h
    · next hm => cases h; exact .inr ⟨hb, hm, rfl⟩
    · next hm => cases h; exact .inl ⟨.inr hm, rfl⟩
  · next hb => cases h; exact .inl ⟨.inl (by simpa using hb), rfl⟩

/-- A jump or branch that goes on: outside a delay slot, to an aligned target, the link written if there is one. -/
theorem jump_next {s t : State} {target : Option Word} {link : Option (Reg × Word)}
    (h : s.jump target link = .next t) :
    s.ds = false ∧ (target.getD 0#32).extractLsb' 0 2 = 0#2 ∧
      ((link = none ∧ t = s.advanceTo target) ∨
        ∃ r v, link = some (r, v) ∧ t = (s.setGpr r v).advanceTo target) := by
  unfold State.jump at h
  split at h
  · cases h
  · next hd =>
    split at h
    · cases h
    · next ha =>
      refine ⟨by simpa using hd, by simpa using ha, ?_⟩
      split at h
      · cases h; exact .inl ⟨rfl, rfl⟩
      · next r v => cases h; exact .inr ⟨r, v, rfl, rfl⟩

/-- An aligned load goes on with the register written, or takes a TLB miss of its address. -/
theorem loadInto_next {s t : State} {ea : Word} {n : Nat} {rt : Reg} {ext : Word → Word}
    (h : s.loadInto ea n rt ext = .next t) :
    misaligned ea n = false ∧
      ((∃ v u, s.memRead ea n = .ok v u ∧ t = (u.setGpr rt (ext v)).advance) ∨
        (s.translate ea = none ∧ t = s.trapEntry (.tlbMiss ea))) := by
  unfold State.loadInto at h
  split at h
  · cases h
  · next ha =>
    refine ⟨by simpa using ha, ?_⟩
    obtain ⟨u, hu, rfl⟩ | ⟨e, he, rfl⟩ := complete_next h
    · obtain ⟨v, u', hv, rfl⟩ := intoGpr_ok hu
      exact .inl ⟨v, u', hv, rfl⟩
    · obtain ⟨hp, rfl⟩ := memRead_raise (intoGpr_raise he)
      exact .inr ⟨hp, rfl⟩

/-- LWL or LWR goes on with the register written, or takes a TLB miss of its address. -/
theorem loadWordOf_next {s t : State} {ea : Word} {rt : Reg} {f : Word → Word}
    (h : s.complete ((s.memReadWordOf ea).intoGpr rt f) = .next t) :
    (∃ v u, s.memReadWordOf ea = .ok v u ∧ t = (u.setGpr rt (f v)).advance) ∨
      (s.translate ea = none ∧ t = s.trapEntry (.tlbMiss ea)) := by
  obtain ⟨u, hu, rfl⟩ | ⟨e, he, rfl⟩ := complete_next h
  · obtain ⟨v, u', hv, rfl⟩ := intoGpr_ok hu
    exact .inl ⟨v, u', hv, rfl⟩
  · obtain ⟨hp, rfl⟩ := memReadWordOf_raise (intoGpr_raise he)
    exact .inr ⟨hp, rfl⟩

/-- An aligned store goes on with its access performed, or takes a TLB miss of its address. -/
theorem storeFrom_next {s t : State} {ea : Word} {n : Nat} {rt : Reg} (h : s.storeFrom ea n rt = .next t) :
    misaligned ea n = false ∧
      ((∃ p u, s.translate ea = some p ∧
          s.writePhys p (cellsFrom p.pa (bytesOf n (s.gpr rt))) = .ok () u ∧ t = u.advance) ∨
        (s.translate ea = none ∧ t = s.trapEntry (.tlbMiss ea))) := by
  unfold State.storeFrom at h
  split at h
  · cases h
  · next ha =>
    refine ⟨by simpa using ha, ?_⟩
    obtain ⟨u, hu, rfl⟩ | ⟨e, he, rfl⟩ := complete_next h
    · obtain ⟨p, hp, hw⟩ := memWrite_ok hu
      exact .inl ⟨p, u, hp, hw, rfl⟩
    · obtain ⟨hp, rfl⟩ := memWrite_raise he
      exact .inr ⟨hp, rfl⟩

/-- SWL or SWR goes on with its access performed, or takes a TLB miss of its address. -/
theorem storeCells_next {s t : State} {ea : Word} {cells : Word → List Host.Cell}
    (h : s.storeCells ea cells = .next t) :
    (∃ p u, s.translate ea = some p ∧ s.writePhys p (cells p.pa) = .ok () u ∧ t = u.advance) ∨
      (s.translate ea = none ∧ t = s.trapEntry (.tlbMiss ea)) := by
  unfold State.storeCells at h
  obtain ⟨u, hu, rfl⟩ | ⟨e, he, rfl⟩ := complete_next h
  · split at hu
    · cases hu
    · next p hp => exact .inl ⟨p, u, hp, hu, rfl⟩
  · split at he
    · next hp => cases he; exact .inr ⟨hp, rfl⟩
    · exact absurd he (writePhys_ne_raise _ _ _ _)

/-! ### Control registers -/

/-- Reading a control register changes at most the count of free values, and never raises. -/
theorem readControl_ok {s t : State} {rd : Reg} {v : Word} (h : s.readControl rd = .ok v t) :
    t = s ∨ (rd.toNat = 0 ∧ t = { s with draws := s.draws + 1 }) := by
  unfold State.readControl at h
  split at h <;> cases h <;> simp_all

theorem readControl_ne_raise (s : State) (rd : Reg) (e : Exc) : s.readControl rd ≠ .raise e := by
  unfold State.readControl
  split <;> simp

/-- Writing a control register writes one of Index, EntryLo, EntryHi and SR. -/
theorem writeControl_ok {s t : State} {rd : Reg} {v : Word} {u : Unit} (h : s.writeControl rd v = .ok u t) :
    (rd.toNat = 0 ∧ t = { s with index := v.extractLsb' 8 6 }) ∨
      (rd.toNat = 2 ∧ t = { s with entryLo := ⟨v.extractLsb' 12 20, v.getLsbD 9⟩ }) ∨
      (rd.toNat = 10 ∧ t = { s with entryHi := v.extractLsb' 12 20 }) ∨
      (rd.toNat = 12 ∧ t = { s with sr := ⟨v.getLsbD 4, v.getLsbD 2, v.getLsbD 0⟩ }) := by
  unfold State.writeControl at h
  split at h <;> cases h <;> simp_all

theorem writeControl_ne_raise (s : State) (rd : Reg) (v : Word) (e : Exc) : s.writeControl rd v ≠ .raise e := by
  unfold State.writeControl
  split <;> simp

/-! ### The step -/

/-- Everything a step can do: the reset event, an interrupt, a fetch miss, or the fetched word's instruction run from
the state the fetch left (10 R27, 60 R268). -/
theorem step_next {s t : State} (h : step s = .next t) :
    (s.pinsNow.reset = true ∧ t = s.popPins.resetEvent) ∨
      (s.pinsNow.reset = false ∧ s.pinsNow.irq = true ∧ s.sr.iec = true ∧ t = s.popPins.trapEntry .interrupt) ∨
      (s.pinsNow.reset = false ∧ (s.pinsNow.irq && s.sr.iec) = false ∧
        ((s.translate s.pc = none ∧ t = s.popPins.trapEntry (.tlbMiss s.pc)) ∨
          ∃ w u i, s.popPins.fetch = .ok w u ∧ decode w = .ok i ∧ exec i u = .next t)) := by
  unfold step State.cycle at h
  split at h
  · next hr => cases h; exact .inl ⟨hr, rfl⟩
  · next hr =>
    have hr : s.pinsNow.reset = false := by simpa using hr
    split at h
    · next hi =>
      cases h
      simp only [Bool.and_eq_true] at hi
      exact .inr (.inl ⟨hr, hi.1, hi.2, rfl⟩)
    · next hi =>
      refine .inr (.inr ⟨hr, by simpa using hi, ?_⟩)
      unfold State.fetchAndRun at h
      split at h
      · next w u hf =>
        unfold State.runWord at h
        split at h
        · next i hd => exact .inr ⟨w, u, i, hf, hd, h⟩
        · cases h
      · next e he =>
        cases h
        obtain ⟨hp, rfl⟩ := fetch_raise he
        exact .inl ⟨by simpa using hp, rfl⟩
      · cases h

end Sys2Proof.Machine
end

