-- ==== Sys2Proof/Laws/PerInstr.lean ====
section
/-! SUPPORT. Statements for all instructions, one lemma per constructor. -/

namespace Sys2Proof.Laws

/-- The encoder agrees with the opcode table: the word of an instruction is selected by the row that has its mnemonic
(30 R131, opcode_table.json). -/
def EncodesToRow.Statement (i : Instr) : Prop :=
  ∃ r ∈ opcodeRows, r.mnemonic = i.mnemonic ∧ r.selects (encode i) = true

/-- A row is selected where the masked word is the pattern. -/
theorem encodesToRow_of {i : Instr} (r : OpcodeRow) (hr : r ∈ opcodeRows) (hm : r.mnemonic = i.mnemonic)
    (h : encode i &&& r.mask = r.pattern) : EncodesToRow.Statement i :=
  ⟨r, hr, hm, by simp [OpcodeRow.selects, h]⟩

theorem EncodesToRow.lb (rt : Reg) (imm : Imm16) (rs : Reg) : EncodesToRow.Statement (.lb rt imm rs) :=
  encodesToRow_of ⟨"LB", 0x80000000#32, 0xFC000000#32⟩ (by decide) rfl
    ((iType_and 0b100000#6 rs rt imm 63#6 0#5 0#5 0#16).trans (by simp only [BitVec.and_zero]; decide))

theorem EncodesToRow.lbu (rt : Reg) (imm : Imm16) (rs : Reg) : EncodesToRow.Statement (.lbu rt imm rs) :=
  encodesToRow_of ⟨"LBU", 0x90000000#32, 0xFC000000#32⟩ (by decide) rfl
    ((iType_and 0b100100#6 rs rt imm 63#6 0#5 0#5 0#16).trans (by simp only [BitVec.and_zero]; decide))

theorem EncodesToRow.sb (rt : Reg) (imm : Imm16) (rs : Reg) : EncodesToRow.Statement (.sb rt imm rs) :=
  encodesToRow_of ⟨"SB", 0xA0000000#32, 0xFC000000#32⟩ (by decide) rfl
    ((iType_and 0b101000#6 rs rt imm 63#6 0#5 0#5 0#16).trans (by simp only [BitVec.and_zero]; decide))

theorem EncodesToRow.lh (rt : Reg) (imm : Imm16) (rs : Reg) : EncodesToRow.Statement (.lh rt imm rs) :=
  encodesToRow_of ⟨"LH", 0x84000000#32, 0xFC000000#32⟩ (by decide) rfl
    ((iType_and 0b100001#6 rs rt imm 63#6 0#5 0#5 0#16).trans (by simp only [BitVec.and_zero]; decide))

theorem EncodesToRow.lhu (rt : Reg) (imm : Imm16) (rs : Reg) : EncodesToRow.Statement (.lhu rt imm rs) :=
  encodesToRow_of ⟨"LHU", 0x94000000#32, 0xFC000000#32⟩ (by decide) rfl
    ((iType_and 0b100101#6 rs rt imm 63#6 0#5 0#5 0#16).trans (by simp only [BitVec.and_zero]; decide))

theorem EncodesToRow.sh (rt : Reg) (imm : Imm16) (rs : Reg) : EncodesToRow.Statement (.sh rt imm rs) :=
  encodesToRow_of ⟨"SH", 0xA4000000#32, 0xFC000000#32⟩ (by decide) rfl
    ((iType_and 0b101001#6 rs rt imm 63#6 0#5 0#5 0#16).trans (by simp only [BitVec.and_zero]; decide))

theorem EncodesToRow.lw (rt : Reg) (imm : Imm16) (rs : Reg) : EncodesToRow.Statement (.lw rt imm rs) :=
  encodesToRow_of ⟨"LW", 0x8C000000#32, 0xFC000000#32⟩ (by decide) rfl
    ((iType_and 0b100011#6 rs rt imm 63#6 0#5 0#5 0#16).trans (by simp only [BitVec.and_zero]; decide))

theorem EncodesToRow.sw (rt : Reg) (imm : Imm16) (rs : Reg) : EncodesToRow.Statement (.sw rt imm rs) :=
  encodesToRow_of ⟨"SW", 0xAC000000#32, 0xFC000000#32⟩ (by decide) rfl
    ((iType_and 0b101011#6 rs rt imm 63#6 0#5 0#5 0#16).trans (by simp only [BitVec.and_zero]; decide))

theorem EncodesToRow.lwl (rt : Reg) (imm : Imm16) (rs : Reg) : EncodesToRow.Statement (.lwl rt imm rs) :=
  encodesToRow_of ⟨"LWL", 0x88000000#32, 0xFC000000#32⟩ (by decide) rfl
    ((iType_and 0b100010#6 rs rt imm 63#6 0#5 0#5 0#16).trans (by simp only [BitVec.and_zero]; decide))

theorem EncodesToRow.lwr (rt : Reg) (imm : Imm16) (rs : Reg) : EncodesToRow.Statement (.lwr rt imm rs) :=
  encodesToRow_of ⟨"LWR", 0x98000000#32, 0xFC000000#32⟩ (by decide) rfl
    ((iType_and 0b100110#6 rs rt imm 63#6 0#5 0#5 0#16).trans (by simp only [BitVec.and_zero]; decide))

theorem EncodesToRow.swl (rt : Reg) (imm : Imm16) (rs : Reg) : EncodesToRow.Statement (.swl rt imm rs) :=
  encodesToRow_of ⟨"SWL", 0xA8000000#32, 0xFC000000#32⟩ (by decide) rfl
    ((iType_and 0b101010#6 rs rt imm 63#6 0#5 0#5 0#16).trans (by simp only [BitVec.and_zero]; decide))

theorem EncodesToRow.swr (rt : Reg) (imm : Imm16) (rs : Reg) : EncodesToRow.Statement (.swr rt imm rs) :=
  encodesToRow_of ⟨"SWR", 0xB8000000#32, 0xFC000000#32⟩ (by decide) rfl
    ((iType_and 0b101110#6 rs rt imm 63#6 0#5 0#5 0#16).trans (by simp only [BitVec.and_zero]; decide))

theorem EncodesToRow.addi (rt rs : Reg) (imm : Imm16) : EncodesToRow.Statement (.addi rt rs imm) :=
  encodesToRow_of ⟨"ADDI", 0x20000000#32, 0xFC000000#32⟩ (by decide) rfl
    ((iType_and 0b001000#6 rs rt imm 63#6 0#5 0#5 0#16).trans (by simp only [BitVec.and_zero]; decide))

theorem EncodesToRow.addiu (rt rs : Reg) (imm : Imm16) : EncodesToRow.Statement (.addiu rt rs imm) :=
  encodesToRow_of ⟨"ADDIU", 0x24000000#32, 0xFC000000#32⟩ (by decide) rfl
    ((iType_and 0b001001#6 rs rt imm 63#6 0#5 0#5 0#16).trans (by simp only [BitVec.and_zero]; decide))

theorem EncodesToRow.slti (rt rs : Reg) (imm : Imm16) : EncodesToRow.Statement (.slti rt rs imm) :=
  encodesToRow_of ⟨"SLTI", 0x28000000#32, 0xFC000000#32⟩ (by decide) rfl
    ((iType_and 0b001010#6 rs rt imm 63#6 0#5 0#5 0#16).trans (by simp only [BitVec.and_zero]; decide))

theorem EncodesToRow.sltiu (rt rs : Reg) (imm : Imm16) : EncodesToRow.Statement (.sltiu rt rs imm) :=
  encodesToRow_of ⟨"SLTIU", 0x2C000000#32, 0xFC000000#32⟩ (by decide) rfl
    ((iType_and 0b001011#6 rs rt imm 63#6 0#5 0#5 0#16).trans (by simp only [BitVec.and_zero]; decide))

theorem EncodesToRow.andi (rt rs : Reg) (imm : Imm16) : EncodesToRow.Statement (.andi rt rs imm) :=
  encodesToRow_of ⟨"ANDI", 0x30000000#32, 0xFC000000#32⟩ (by decide) rfl
    ((iType_and 0b001100#6 rs rt imm 63#6 0#5 0#5 0#16).trans (by simp only [BitVec.and_zero]; decide))

theorem EncodesToRow.ori (rt rs : Reg) (imm : Imm16) : EncodesToRow.Statement (.ori rt rs imm) :=
  encodesToRow_of ⟨"ORI", 0x34000000#32, 0xFC000000#32⟩ (by decide) rfl
    ((iType_and 0b001101#6 rs rt imm 63#6 0#5 0#5 0#16).trans (by simp only [BitVec.and_zero]; decide))

theorem EncodesToRow.xori (rt rs : Reg) (imm : Imm16) : EncodesToRow.Statement (.xori rt rs imm) :=
  encodesToRow_of ⟨"XORI", 0x38000000#32, 0xFC000000#32⟩ (by decide) rfl
    ((iType_and 0b001110#6 rs rt imm 63#6 0#5 0#5 0#16).trans (by simp only [BitVec.and_zero]; decide))

theorem EncodesToRow.lui (rt : Reg) (imm : Imm16) : EncodesToRow.Statement (.lui rt imm) :=
  encodesToRow_of ⟨"LUI", 0x3C000000#32, 0xFFE00000#32⟩ (by decide) rfl
    ((iType_and 0b001111#6 0#5 rt imm 63#6 31#5 0#5 0#16).trans (by simp only [BitVec.and_zero]; decide))

theorem EncodesToRow.add (rd rs rt : Reg) : EncodesToRow.Statement (.add rd rs rt) :=
  encodesToRow_of ⟨"ADD", 0x00000020#32, 0xFC0007FF#32⟩ (by decide) rfl
    ((rType_and 0#6 rs rt rd 0#5 0b100000#6 63#6 0#5 0#5 0#5 31#5 63#6).trans (by simp only [BitVec.and_zero]; decide))

theorem EncodesToRow.addu (rd rs rt : Reg) : EncodesToRow.Statement (.addu rd rs rt) :=
  encodesToRow_of ⟨"ADDU", 0x00000021#32, 0xFC0007FF#32⟩ (by decide) rfl
    ((rType_and 0#6 rs rt rd 0#5 0b100001#6 63#6 0#5 0#5 0#5 31#5 63#6).trans (by simp only [BitVec.and_zero]; decide))

theorem EncodesToRow.sub (rd rs rt : Reg) : EncodesToRow.Statement (.sub rd rs rt) :=
  encodesToRow_of ⟨"SUB", 0x00000022#32, 0xFC0007FF#32⟩ (by decide) rfl
    ((rType_and 0#6 rs rt rd 0#5 0b100010#6 63#6 0#5 0#5 0#5 31#5 63#6).trans (by simp only [BitVec.and_zero]; decide))

theorem EncodesToRow.subu (rd rs rt : Reg) : EncodesToRow.Statement (.subu rd rs rt) :=
  encodesToRow_of ⟨"SUBU", 0x00000023#32, 0xFC0007FF#32⟩ (by decide) rfl
    ((rType_and 0#6 rs rt rd 0#5 0b100011#6 63#6 0#5 0#5 0#5 31#5 63#6).trans (by simp only [BitVec.and_zero]; decide))

theorem EncodesToRow.slt (rd rs rt : Reg) : EncodesToRow.Statement (.slt rd rs rt) :=
  encodesToRow_of ⟨"SLT", 0x0000002A#32, 0xFC0007FF#32⟩ (by decide) rfl
    ((rType_and 0#6 rs rt rd 0#5 0b101010#6 63#6 0#5 0#5 0#5 31#5 63#6).trans (by simp only [BitVec.and_zero]; decide))

theorem EncodesToRow.sltu (rd rs rt : Reg) : EncodesToRow.Statement (.sltu rd rs rt) :=
  encodesToRow_of ⟨"SLTU", 0x0000002B#32, 0xFC0007FF#32⟩ (by decide) rfl
    ((rType_and 0#6 rs rt rd 0#5 0b101011#6 63#6 0#5 0#5 0#5 31#5 63#6).trans (by simp only [BitVec.and_zero]; decide))

theorem EncodesToRow.and (rd rs rt : Reg) : EncodesToRow.Statement (.and rd rs rt) :=
  encodesToRow_of ⟨"AND", 0x00000024#32, 0xFC0007FF#32⟩ (by decide) rfl
    ((rType_and 0#6 rs rt rd 0#5 0b100100#6 63#6 0#5 0#5 0#5 31#5 63#6).trans (by simp only [BitVec.and_zero]; decide))

theorem EncodesToRow.or (rd rs rt : Reg) : EncodesToRow.Statement (.or rd rs rt) :=
  encodesToRow_of ⟨"OR", 0x00000025#32, 0xFC0007FF#32⟩ (by decide) rfl
    ((rType_and 0#6 rs rt rd 0#5 0b100101#6 63#6 0#5 0#5 0#5 31#5 63#6).trans (by simp only [BitVec.and_zero]; decide))

theorem EncodesToRow.xor (rd rs rt : Reg) : EncodesToRow.Statement (.xor rd rs rt) :=
  encodesToRow_of ⟨"XOR", 0x00000026#32, 0xFC0007FF#32⟩ (by decide) rfl
    ((rType_and 0#6 rs rt rd 0#5 0b100110#6 63#6 0#5 0#5 0#5 31#5 63#6).trans (by simp only [BitVec.and_zero]; decide))

theorem EncodesToRow.nor (rd rs rt : Reg) : EncodesToRow.Statement (.nor rd rs rt) :=
  encodesToRow_of ⟨"NOR", 0x00000027#32, 0xFC0007FF#32⟩ (by decide) rfl
    ((rType_and 0#6 rs rt rd 0#5 0b100111#6 63#6 0#5 0#5 0#5 31#5 63#6).trans (by simp only [BitVec.and_zero]; decide))

theorem EncodesToRow.sll (rd rt : Reg) (sa : BitVec 5) : EncodesToRow.Statement (.sll rd rt sa) :=
  encodesToRow_of ⟨"SLL", 0x00000000#32, 0xFFE0003F#32⟩ (by decide) rfl
    ((rType_and 0#6 0#5 rt rd sa 0b000000#6 63#6 31#5 0#5 0#5 0#5 63#6).trans (by simp only [BitVec.and_zero]; decide))

theorem EncodesToRow.srl (rd rt : Reg) (sa : BitVec 5) : EncodesToRow.Statement (.srl rd rt sa) :=
  encodesToRow_of ⟨"SRL", 0x00000002#32, 0xFFE0003F#32⟩ (by decide) rfl
    ((rType_and 0#6 0#5 rt rd sa 0b000010#6 63#6 31#5 0#5 0#5 0#5 63#6).trans (by simp only [BitVec.and_zero]; decide))

theorem EncodesToRow.sra (rd rt : Reg) (sa : BitVec 5) : EncodesToRow.Statement (.sra rd rt sa) :=
  encodesToRow_of ⟨"SRA", 0x00000003#32, 0xFFE0003F#32⟩ (by decide) rfl
    ((rType_and 0#6 0#5 rt rd sa 0b000011#6 63#6 31#5 0#5 0#5 0#5 63#6).trans (by simp only [BitVec.and_zero]; decide))

theorem EncodesToRow.sllv (rd rt rs : Reg) : EncodesToRow.Statement (.sllv rd rt rs) :=
  encodesToRow_of ⟨"SLLV", 0x00000004#32, 0xFC0007FF#32⟩ (by decide) rfl
    ((rType_and 0#6 rs rt rd 0#5 0b000100#6 63#6 0#5 0#5 0#5 31#5 63#6).trans (by simp only [BitVec.and_zero]; decide))

theorem EncodesToRow.srlv (rd rt rs : Reg) : EncodesToRow.Statement (.srlv rd rt rs) :=
  encodesToRow_of ⟨"SRLV", 0x00000006#32, 0xFC0007FF#32⟩ (by decide) rfl
    ((rType_and 0#6 rs rt rd 0#5 0b000110#6 63#6 0#5 0#5 0#5 31#5 63#6).trans (by simp only [BitVec.and_zero]; decide))

theorem EncodesToRow.srav (rd rt rs : Reg) : EncodesToRow.Statement (.srav rd rt rs) :=
  encodesToRow_of ⟨"SRAV", 0x00000007#32, 0xFC0007FF#32⟩ (by decide) rfl
    ((rType_and 0#6 rs rt rd 0#5 0b000111#6 63#6 0#5 0#5 0#5 31#5 63#6).trans (by simp only [BitVec.and_zero]; decide))

theorem EncodesToRow.mult (rs rt : Reg) : EncodesToRow.Statement (.mult rs rt) :=
  encodesToRow_of ⟨"MULT", 0x00000018#32, 0xFC00FFFF#32⟩ (by decide) rfl
    ((rType_and 0#6 rs rt 0#5 0#5 0b011000#6 63#6 0#5 0#5 31#5 31#5 63#6).trans (by simp only [BitVec.and_zero]; decide))

theorem EncodesToRow.multu (rs rt : Reg) : EncodesToRow.Statement (.multu rs rt) :=
  encodesToRow_of ⟨"MULTU", 0x00000019#32, 0xFC00FFFF#32⟩ (by decide) rfl
    ((rType_and 0#6 rs rt 0#5 0#5 0b011001#6 63#6 0#5 0#5 31#5 31#5 63#6).trans (by simp only [BitVec.and_zero]; decide))

theorem EncodesToRow.div (rs rt : Reg) : EncodesToRow.Statement (.div rs rt) :=
  encodesToRow_of ⟨"DIV", 0x0000001A#32, 0xFC00FFFF#32⟩ (by decide) rfl
    ((rType_and 0#6 rs rt 0#5 0#5 0b011010#6 63#6 0#5 0#5 31#5 31#5 63#6).trans (by simp only [BitVec.and_zero]; decide))

theorem EncodesToRow.divu (rs rt : Reg) : EncodesToRow.Statement (.divu rs rt) :=
  encodesToRow_of ⟨"DIVU", 0x0000001B#32, 0xFC00FFFF#32⟩ (by decide) rfl
    ((rType_and 0#6 rs rt 0#5 0#5 0b011011#6 63#6 0#5 0#5 31#5 31#5 63#6).trans (by simp only [BitVec.and_zero]; decide))

theorem EncodesToRow.mfhi (rd : Reg) : EncodesToRow.Statement (.mfhi rd) :=
  encodesToRow_of ⟨"MFHI", 0x00000010#32, 0xFFFF07FF#32⟩ (by decide) rfl
    ((rType_and 0#6 0#5 0#5 rd 0#5 0b010000#6 63#6 31#5 31#5 0#5 31#5 63#6).trans (by simp only [BitVec.and_zero]; decide))

theorem EncodesToRow.mthi (rs : Reg) : EncodesToRow.Statement (.mthi rs) :=
  encodesToRow_of ⟨"MTHI", 0x00000011#32, 0xFC1FFFFF#32⟩ (by decide) rfl
    ((rType_and 0#6 rs 0#5 0#5 0#5 0b010001#6 63#6 0#5 31#5 31#5 31#5 63#6).trans (by simp only [BitVec.and_zero]; decide))

theorem EncodesToRow.mflo (rd : Reg) : EncodesToRow.Statement (.mflo rd) :=
  encodesToRow_of ⟨"MFLO", 0x00000012#32, 0xFFFF07FF#32⟩ (by decide) rfl
    ((rType_and 0#6 0#5 0#5 rd 0#5 0b010010#6 63#6 31#5 31#5 0#5 31#5 63#6).trans (by simp only [BitVec.and_zero]; decide))

theorem EncodesToRow.mtlo (rs : Reg) : EncodesToRow.Statement (.mtlo rs) :=
  encodesToRow_of ⟨"MTLO", 0x00000013#32, 0xFC1FFFFF#32⟩ (by decide) rfl
    ((rType_and 0#6 rs 0#5 0#5 0#5 0b010011#6 63#6 0#5 31#5 31#5 31#5 63#6).trans (by simp only [BitVec.and_zero]; decide))

theorem EncodesToRow.j (index : Index26) : EncodesToRow.Statement (.j index) :=
  encodesToRow_of ⟨"J", 0x08000000#32, 0xFC000000#32⟩ (by decide) rfl
    ((jType_and 0b000010#6 index 63#6 0#26).trans (by simp only [BitVec.and_zero]; decide))

theorem EncodesToRow.jal (index : Index26) : EncodesToRow.Statement (.jal index) :=
  encodesToRow_of ⟨"JAL", 0x0C000000#32, 0xFC000000#32⟩ (by decide) rfl
    ((jType_and 0b000011#6 index 63#6 0#26).trans (by simp only [BitVec.and_zero]; decide))

theorem EncodesToRow.jr (rs : Reg) : EncodesToRow.Statement (.jr rs) :=
  encodesToRow_of ⟨"JR", 0x00000008#32, 0xFC1FFFFF#32⟩ (by decide) rfl
    ((rType_and 0#6 rs 0#5 0#5 0#5 0b001000#6 63#6 0#5 31#5 31#5 31#5 63#6).trans (by simp only [BitVec.and_zero]; decide))

theorem EncodesToRow.jalr (rd rs : Reg) : EncodesToRow.Statement (.jalr rd rs) :=
  encodesToRow_of ⟨"JALR", 0x00000009#32, 0xFC1F07FF#32⟩ (by decide) rfl
    ((rType_and 0#6 rs 0#5 rd 0#5 0b001001#6 63#6 0#5 31#5 0#5 31#5 63#6).trans (by simp only [BitVec.and_zero]; decide))

theorem EncodesToRow.beq (rs rt : Reg) (imm : Imm16) : EncodesToRow.Statement (.beq rs rt imm) :=
  encodesToRow_of ⟨"BEQ", 0x10000000#32, 0xFC000000#32⟩ (by decide) rfl
    ((iType_and 0b000100#6 rs rt imm 63#6 0#5 0#5 0#16).trans (by simp only [BitVec.and_zero]; decide))

theorem EncodesToRow.bne (rs rt : Reg) (imm : Imm16) : EncodesToRow.Statement (.bne rs rt imm) :=
  encodesToRow_of ⟨"BNE", 0x14000000#32, 0xFC000000#32⟩ (by decide) rfl
    ((iType_and 0b000101#6 rs rt imm 63#6 0#5 0#5 0#16).trans (by simp only [BitVec.and_zero]; decide))

theorem EncodesToRow.blez (rs : Reg) (imm : Imm16) : EncodesToRow.Statement (.blez rs imm) :=
  encodesToRow_of ⟨"BLEZ", 0x18000000#32, 0xFC1F0000#32⟩ (by decide) rfl
    ((iType_and 0b000110#6 rs 0#5 imm 63#6 0#5 31#5 0#16).trans (by simp only [BitVec.and_zero]; decide))

theorem EncodesToRow.bgtz (rs : Reg) (imm : Imm16) : EncodesToRow.Statement (.bgtz rs imm) :=
  encodesToRow_of ⟨"BGTZ", 0x1C000000#32, 0xFC1F0000#32⟩ (by decide) rfl
    ((iType_and 0b000111#6 rs 0#5 imm 63#6 0#5 31#5 0#16).trans (by simp only [BitVec.and_zero]; decide))

theorem EncodesToRow.bltz (rs : Reg) (imm : Imm16) : EncodesToRow.Statement (.bltz rs imm) :=
  encodesToRow_of ⟨"BLTZ", 0x04000000#32, 0xFC1F0000#32⟩ (by decide) rfl
    ((iType_and 0b000001#6 rs 0b00000#5 imm 63#6 0#5 31#5 0#16).trans (by simp only [BitVec.and_zero]; decide))

theorem EncodesToRow.bgez (rs : Reg) (imm : Imm16) : EncodesToRow.Statement (.bgez rs imm) :=
  encodesToRow_of ⟨"BGEZ", 0x04010000#32, 0xFC1F0000#32⟩ (by decide) rfl
    ((iType_and 0b000001#6 rs 0b00001#5 imm 63#6 0#5 31#5 0#16).trans (by simp only [BitVec.and_zero]; decide))

theorem EncodesToRow.bltzal (rs : Reg) (imm : Imm16) : EncodesToRow.Statement (.bltzal rs imm) :=
  encodesToRow_of ⟨"BLTZAL", 0x04100000#32, 0xFC1F0000#32⟩ (by decide) rfl
    ((iType_and 0b000001#6 rs 0b10000#5 imm 63#6 0#5 31#5 0#16).trans (by simp only [BitVec.and_zero]; decide))

theorem EncodesToRow.bgezal (rs : Reg) (imm : Imm16) : EncodesToRow.Statement (.bgezal rs imm) :=
  encodesToRow_of ⟨"BGEZAL", 0x04110000#32, 0xFC1F0000#32⟩ (by decide) rfl
    ((iType_and 0b000001#6 rs 0b10001#5 imm 63#6 0#5 31#5 0#16).trans (by simp only [BitVec.and_zero]; decide))

theorem EncodesToRow.syscall (code : Code20) : EncodesToRow.Statement (.syscall code) :=
  encodesToRow_of ⟨"SYSCALL", 0x0000000C#32, 0xFC00003F#32⟩ (by decide) rfl
    ((codeType_and code 0b001100#6 0b111111#6 0#20 0b111111#6).trans (by simp only [BitVec.and_zero]; decide))

theorem EncodesToRow.brk (code : Code20) : EncodesToRow.Statement (.brk code) :=
  encodesToRow_of ⟨"BREAK", 0x0000000D#32, 0xFC00003F#32⟩ (by decide) rfl
    ((codeType_and code 0b001101#6 0b111111#6 0#20 0b111111#6).trans (by simp only [BitVec.and_zero]; decide))

theorem EncodesToRow.mfc0 (rt rd : Reg) : EncodesToRow.Statement (.mfc0 rt rd) :=
  encodesToRow_of ⟨"MFC0", 0x40000000#32, 0xFFE007FF#32⟩ (by decide) rfl
    ((rType_and 0b010000#6 0b00000#5 rt rd 0#5 0#6 63#6 31#5 0#5 0#5 31#5 63#6).trans (by simp only [BitVec.and_zero]; decide))

theorem EncodesToRow.mtc0 (rt rd : Reg) : EncodesToRow.Statement (.mtc0 rt rd) :=
  encodesToRow_of ⟨"MTC0", 0x40800000#32, 0xFFE007FF#32⟩ (by decide) rfl
    ((rType_and 0b010000#6 0b00100#5 rt rd 0#5 0#6 63#6 31#5 0#5 0#5 31#5 63#6).trans (by simp only [BitVec.and_zero]; decide))

theorem EncodesToRow.tlbr : EncodesToRow.Statement (.tlbr) :=
  encodesToRow_of ⟨"TLBR", 0x42000001#32, 0xFFFFFFFF#32⟩ (by decide) rfl
    ((rType_and 0b010000#6 0b10000#5 0#5 0#5 0#5 0b000001#6 63#6 31#5 31#5 31#5 31#5 63#6).trans (by decide))

theorem EncodesToRow.tlbwi : EncodesToRow.Statement (.tlbwi) :=
  encodesToRow_of ⟨"TLBWI", 0x42000002#32, 0xFFFFFFFF#32⟩ (by decide) rfl
    ((rType_and 0b010000#6 0b10000#5 0#5 0#5 0#5 0b000010#6 63#6 31#5 31#5 31#5 31#5 63#6).trans (by decide))

theorem EncodesToRow.rfe : EncodesToRow.Statement (.rfe) :=
  encodesToRow_of ⟨"RFE", 0x42000010#32, 0xFFFFFFFF#32⟩ (by decide) rfl
    ((rType_and 0b010000#6 0b10000#5 0#5 0#5 0#5 0b010000#6 63#6 31#5 31#5 31#5 31#5 63#6).trans (by decide))

end Sys2Proof.Laws
end

