-- ==== Sys2Proof/Tests/Slice0.lean ====
section
/-! SUPPORT. Tests. Words and results are those of 95 (L1, L2) or are written out from the encodings and rules cited. The
second half holds, for each statement with hypotheses, a state and operands that meet them. -/

namespace Sys2Proof.Tests

open Sys2Proof Sys2Proof.Machine

/-! ### WellFormed refuses -/

theorem test_wellFormed_refuses_mfc0_of_no_register :
    (Instr.mfc0 8 3).wellFormed = false ∧ (Instr.mfc0 8 1).wellFormed = false ∧ (Instr.mfc0 8 31).wellFormed = false := by
  decide

theorem test_wellFormed_refuses_mtc0_of_no_register :
    (Instr.mtc0 8 1).wellFormed = false ∧ (Instr.mtc0 8 31).wellFormed = false := by decide

theorem test_wellFormed_refuses_mtc0_of_hardware_written :
    (Instr.mtc0 8 9).wellFormed = false ∧ (Instr.mtc0 8 13).wellFormed = false ∧
      (Instr.mtc0 8 14).wellFormed = false := by decide

theorem test_wellFormed_admits :
    (Instr.mfc0 8 9).wellFormed = true ∧ (Instr.mtc0 8 12).wellFormed = true ∧ Instr.rfe.wellFormed = true := by decide

/-! ### Decoding: words bit by bit from 30 R121 to R131 and the rules of 40 to 45 -/

theorem test_decode_loads :
    decode 0b100000_00011_00010_1111111111111111#32 = .ok (.lb 2 (-1) 3) ∧
    decode 0b100001_00011_00010_0000000000000001#32 = .ok (.lh 2 1 3) ∧
    decode 0b100010_00011_00010_0000000000000011#32 = .ok (.lwl 2 3 3) ∧
    decode 0b100011_00011_00010_1111111111111100#32 = .ok (.lw 2 (-4) 3) ∧
    decode 0b100100_00011_00010_1000000000000000#32 = .ok (.lbu 2 0x8000 3) ∧
    decode 0b100101_00011_00010_0111111111111111#32 = .ok (.lhu 2 0x7FFF 3) ∧
    decode 0b100110_11111_00001_0000000000000000#32 = .ok (.lwr 1 0 31) := by decide

theorem test_decode_stores :
    decode 0b101000_00011_00010_0000000000000001#32 = .ok (.sb 2 1 3) ∧
    decode 0b101001_00011_00010_0000000000000010#32 = .ok (.sh 2 2 3) ∧
    decode 0b101010_00011_00010_0000000000000011#32 = .ok (.swl 2 3 3) ∧
    decode 0b101011_00011_00010_1111111111111100#32 = .ok (.sw 2 (-4) 3) ∧
    decode 0b101110_00011_00010_0000000000000001#32 = .ok (.swr 2 1 3) := by decide

theorem test_decode_alu_immediate :
    decode 0b001000_01001_01000_1111111111111111#32 = .ok (.addi 8 9 (-1)) ∧
    decode 0b001001_11101_11101_1111111111100000#32 = .ok (.addiu 29 29 (-0x20)) ∧
    decode 0b001010_00100_00010_0000000000001010#32 = .ok (.slti 2 4 10) ∧
    decode 0b001011_00100_00010_0000000000000101#32 = .ok (.sltiu 2 4 5) ∧
    decode 0b001100_00100_00010_1111111100000000#32 = .ok (.andi 2 4 0xFF00) ∧
    decode 0b001101_00000_00010_1000000000000000#32 = .ok (.ori 2 0 0x8000) ∧
    decode 0b001110_00100_00010_1111111111111111#32 = .ok (.xori 2 4 0xFFFF) ∧
    decode 0b001111_00000_00010_1011111111000000#32 = .ok (.lui 2 0xBFC0) := by decide

theorem test_decode_three_operands :
    decode 0b000000_00100_00101_00010_00000_100000#32 = .ok (.add 2 4 5) ∧
    decode 0b000000_00100_00101_00010_00000_100001#32 = .ok (.addu 2 4 5) ∧
    decode 0b000000_00100_00101_00010_00000_100010#32 = .ok (.sub 2 4 5) ∧
    decode 0b000000_00100_00101_00010_00000_100011#32 = .ok (.subu 2 4 5) ∧
    decode 0b000000_00100_00101_00010_00000_100100#32 = .ok (.and 2 4 5) ∧
    decode 0b000000_00100_00101_00010_00000_100101#32 = .ok (.or 2 4 5) ∧
    decode 0b000000_00100_00101_00010_00000_100110#32 = .ok (.xor 2 4 5) ∧
    decode 0b000000_00100_00101_00010_00000_100111#32 = .ok (.nor 2 4 5) ∧
    decode 0b000000_00100_00101_00010_00000_101010#32 = .ok (.slt 2 4 5) ∧
    decode 0b000000_00100_00101_00010_00000_101011#32 = .ok (.sltu 2 4 5) := by decide

theorem test_decode_shifts :
    decode 0b000000_00000_00100_00010_01000_000000#32 = .ok (.sll 2 4 8) ∧
    decode 0b000000_00000_00100_00010_01000_000010#32 = .ok (.srl 2 4 8) ∧
    decode 0b000000_00000_00100_00010_11111_000011#32 = .ok (.sra 2 4 31) ∧
    decode 0b000000_00101_00100_00010_00000_000100#32 = .ok (.sllv 2 4 5) ∧
    decode 0b000000_00101_00100_00010_00000_000110#32 = .ok (.srlv 2 4 5) ∧
    decode 0b000000_00101_00100_00010_00000_000111#32 = .ok (.srav 2 4 5) ∧
    decode 0#32 = .ok (.sll 0 0 0) := by decide

theorem test_decode_multiply_divide :
    decode 0b000000_00100_00101_00000_00000_011000#32 = .ok (.mult 4 5) ∧
    decode 0b000000_00100_00101_00000_00000_011001#32 = .ok (.multu 4 5) ∧
    decode 0b000000_00100_00101_00000_00000_011010#32 = .ok (.div 4 5) ∧
    decode 0b000000_00100_00101_00000_00000_011011#32 = .ok (.divu 4 5) ∧
    decode 0b000000_00000_00000_00010_00000_010000#32 = .ok (.mfhi 2) ∧
    decode 0b000000_00100_00000_00000_00000_010001#32 = .ok (.mthi 4) ∧
    decode 0b000000_00000_00000_00010_00000_010010#32 = .ok (.mflo 2) ∧
    decode 0b000000_00100_00000_00000_00000_010011#32 = .ok (.mtlo 4) := by decide

theorem test_decode_jumps :
    decode 0b000010_11111111111111111111111111#32 = .ok (.j 0x3FFFFFF) ∧
    decode 0b000011_00000000000000010000000000#32 = .ok (.jal 0x400) ∧
    decode 0b000000_11111_00000_00000_00000_001000#32 = .ok (.jr 31) ∧
    decode 0b000000_11001_00000_11111_00000_001001#32 = .ok (.jalr 31 25) := by decide

theorem test_decode_branches :
    decode 0b000100_00100_00101_0000000000000011#32 = .ok (.beq 4 5 3) ∧
    decode 0b000101_00100_00000_1111111111111110#32 = .ok (.bne 4 0 (-2)) ∧
    decode 0b000110_00100_00000_0000000000000100#32 = .ok (.blez 4 4) ∧
    decode 0b000111_00100_00000_0000000000000100#32 = .ok (.bgtz 4 4) ∧
    decode 0b000001_00100_00000_1111111111111111#32 = .ok (.bltz 4 (-1)) ∧
    decode 0b000001_00100_00001_0000000000000001#32 = .ok (.bgez 4 1) ∧
    decode 0b000001_00100_10000_0000000000010000#32 = .ok (.bltzal 4 16) ∧
    decode 0b000001_00000_10001_0000000000010000#32 = .ok (.bgezal 0 16) := by decide

theorem test_decode_system :
    decode 0b000000_00000000000000000101_001100#32 = .ok (.syscall 5) ∧
    decode 0b000000_11111111111111111111_001101#32 = .ok (.brk 0xFFFFF) ∧
    decode 0b010000_00000_11010_01101_00000_000000#32 = .ok (.mfc0 26 13) ∧
    decode 0b010000_00100_01000_01100_00000_000000#32 = .ok (.mtc0 8 12) ∧
    decode 0b010000_10000_00000_00000_00000_000001#32 = .ok .tlbr ∧
    decode 0b010000_10000_00000_00000_00000_000010#32 = .ok .tlbwi ∧
    decode 0b010000_10000_00000_00000_00000_010000#32 = .ok .rfe := by decide

/-- 95 L2.9 and the words marked reserved in L2.3 to L2.7. -/
theorem test_decode_reserved :
    decode 0x00851060#32 = .error .fieldNotZero ∧ decode 0x3C22BFC0#32 = .error .fieldNotZero ∧
    decode 0x00241200#32 = .error .fieldNotZero ∧ decode 0x00850818#32 = .error .fieldNotZero ∧
    decode 0x03E00808#32 = .error .fieldNotZero ∧ decode 0x18810004#32 = .error .fieldNotZero ∧
    decode 0x00000001#32 = .error .reservedFunct ∧ decode 0x0000000F#32 = .error .reservedFunct ∧
    decode 0x0000003F#32 = .error .reservedFunct ∧ decode 0x04020000#32 = .error .reservedRegimm ∧
    decode 0x42000018#32 = .error .reservedCop0 ∧ decode 0x42000008#32 = .error .reservedCop0 ∧
    decode 0x40486000#32 = .error .reservedCop0 ∧ decode 0x40086001#32 = .error .reservedCop0 ∧
    decode 0x44000000#32 = .error .reservedOpcode ∧ decode 0xC4000000#32 = .error .reservedOpcode ∧
    decode 0xE8000000#32 = .error .reservedOpcode ∧ decode 0xC0000000#32 = .error .reservedOpcode ∧
    decode 0x50000000#32 = .error .reservedOpcode ∧ decode 0xFFFFFFFF#32 = .error .reservedOpcode := by decide

/-- No word is selected by two rows: of two rows, some bit both masks hold differs in the patterns. -/
theorem test_opcode_rows_do_not_overlap :
    opcodeRows.Pairwise (fun r q => r.pattern &&& q.mask ≠ q.pattern &&& r.mask) := by decide

theorem test_decodeTableWord :
    decodeTableWord 32 0x00851020 = some (.add 2 4 5) ∧ decodeTableWord 32 0x3C22BFC0 = none := by decide

/-! ### One instruction each (95 L2) -/

/-- The common start of 95 L2: pc = 0x80000020. -/
def at20 : State := { State.reset with pc := 0x80000020, npc := 0x80000024 }

/-- With x4 and x5. -/
def x45 (a b : Word) : State := (at20.setGpr 4 a).setGpr 5 b

/-- The memory of 95 L2.2, x2 = 0xAABBCCDD, x3 = 0x80000104. -/
def bytesDemo : State :=
  { (at20.setGpr 2 0xAABBCCDD).setGpr 3 0x80000104 with
    mem := [(0x101, 0x11), (0x102, 0x22), (0x103, 0x33), (0x104, 0xC4), (0x105, 0xD5), (0x106, 0xE6), (0x107, 0xF7)] }

/-- A general register after. -/
def gprOf (o : Out) (r : Reg) : Option Word :=
  match o with
  | .next t => some (t.gpr r)
  | _ => none

/-- HI and LO after. -/
def hiLoOf (o : Out) : Option (Word × Word) :=
  match o with
  | .next t => some (t.hi, t.lo)
  | _ => none

/-- The eight bytes of 95 L2.2 after. -/
def bytesAfter (o : Out) : Option (List Byte) :=
  match o with
  | .next t => some (t.mem.bytesAt 0x100 8)
  | _ => none

/-- Where control goes after: pc, npc, ds. -/
def wayOf (o : Out) : Option (Word × Word × Bool) :=
  match o with
  | .next t => some (t.pc, t.npc, t.ds)
  | _ => none

/-- What an exception leaves: EPC, SR, Cause, BadVaddr, pc. -/
def trapOf (o : Out) : Option (Word × Word × Word × Word × Word) :=
  match o with
  | .next t => some (t.epc, t.sr.word, t.cause.word, t.badVaddr, t.pc)
  | _ => none

/-- The fault, if any. -/
def faultOf (o : Out) : Option Fault :=
  match o with
  | .fault f => some f
  | _ => none

theorem test_lb : gprOf (exec (.lb 2 (-1) 3) bytesDemo) 2 = some 0x33#32 ∧
    gprOf (exec (.lb 2 0 3) bytesDemo) 2 = some 0xFFFFFFC4#32 := by decide
theorem test_lbu : gprOf (exec (.lbu 2 0 3) bytesDemo) 2 = some 0xC4#32 ∧
    gprOf (exec (.lbu 2 (-4) 3) bytesDemo) 2 = some 0#32 := by decide
theorem test_lh : gprOf (exec (.lh 2 0 3) bytesDemo) 2 = some 0xFFFFD5C4#32 ∧
    faultOf (exec (.lh 2 1 3) bytesDemo) = some .misalignedDataAccess := by decide
theorem test_lhu : gprOf (exec (.lhu 2 2 3) bytesDemo) 2 = some 0xF7E6#32 ∧
    faultOf (exec (.lhu 2 (-1) 3) bytesDemo) = some .misalignedDataAccess := by decide
theorem test_lw : gprOf (exec (.lw 3 0 3) bytesDemo) 3 = some 0xF7E6D5C4#32 ∧
    gprOf (exec (.lw 0 0 3) bytesDemo) 0 = some 0#32 := by decide
theorem test_sb : bytesAfter (exec (.sb 2 1 3) bytesDemo) = some [0, 0x11, 0x22, 0x33, 0xC4, 0xDD, 0xE6, 0xF7] := by
  decide
theorem test_sh : bytesAfter (exec (.sh 2 2 3) bytesDemo) = some [0, 0x11, 0x22, 0x33, 0xC4, 0xD5, 0xDD, 0xCC] ∧
    faultOf (exec (.sh 2 3 3) bytesDemo) = some .misalignedDataAccess := by decide
theorem test_sw : bytesAfter (exec (.sw 2 (-4) 3) bytesDemo) = some [0xDD, 0xCC, 0xBB, 0xAA, 0xC4, 0xD5, 0xE6, 0xF7] ∧
    faultOf (exec (.sw 2 1 3) bytesDemo) = some .misalignedDataAccess := by decide
theorem test_lwl : gprOf (exec (.lwl 2 0 3) bytesDemo) 2 = some 0xC4BBCCDD#32 ∧
    gprOf (exec (.lwl 2 2 3) bytesDemo) 2 = some 0xE6D5C4DD#32 := by decide
theorem test_lwr : gprOf (exec (.lwr 2 1 3) bytesDemo) 2 = some 0xAAF7E6D5#32 ∧
    gprOf (exec (.lwr 2 3 3) bytesDemo) 2 = some 0xAABBCCF7#32 := by decide
theorem test_swl : bytesAfter (exec (.swl 2 1 3) bytesDemo) = some [0, 0x11, 0x22, 0x33, 0xBB, 0xAA, 0xE6, 0xF7] ∧
    bytesAfter (exec (.swl 2 3 3) bytesDemo) = some [0, 0x11, 0x22, 0x33, 0xDD, 0xCC, 0xBB, 0xAA] := by decide
theorem test_swr : bytesAfter (exec (.swr 2 1 3) bytesDemo) = some [0, 0x11, 0x22, 0x33, 0xC4, 0xDD, 0xCC, 0xBB] ∧
    bytesAfter (exec (.swr 2 3 3) bytesDemo) = some [0, 0x11, 0x22, 0x33, 0xC4, 0xD5, 0xE6, 0xDD] := by decide

theorem test_addi : gprOf (exec (.addi 8 9 1) (at20.setGpr 9 0x7FFFFFFE)) 8 = some 0x7FFFFFFF#32 ∧
    faultOf (exec (.addi 8 9 0x8000) (at20.setGpr 9 0x80007FFF)) = some .integerOverflow := by decide
theorem test_addiu : gprOf (exec (.addiu 8 9 1) (at20.setGpr 9 0x7FFFFFFF)) 8 = some 0x80000000#32 ∧
    gprOf (exec (.addiu 8 0 0x8000) at20) 8 = some 0xFFFF8000#32 := by decide
theorem test_slti : gprOf (exec (.slti 2 4 (-1)) (x45 0x7FFFFFFF 0)) 2 = some 0#32 ∧
    gprOf (exec (.slti 2 4 0x7FFF) (x45 0x80000000 0)) 2 = some 1#32 := by decide
theorem test_sltiu : gprOf (exec (.sltiu 2 4 (-1)) (x45 0 0)) 2 = some 1#32 ∧
    gprOf (exec (.sltiu 2 4 0x7FFF) (x45 0xFFFF8000 0)) 2 = some 0#32 := by decide
theorem test_andi : gprOf (exec (.andi 2 4 0x8000) (x45 0xFFFFFFFF 0)) 2 = some 0x8000#32 := by decide
theorem test_ori : gprOf (exec (.ori 2 4 0xFF) (x45 0x12345600 0)) 2 = some 0x123456FF#32 ∧
    gprOf (exec (.ori 2 0 0x8000) at20) 2 = some 0x8000#32 := by decide
theorem test_xori : gprOf (exec (.xori 2 4 0xFFFF) (x45 0xFFFFFFFF 0)) 2 = some 0xFFFF0000#32 := by decide
theorem test_lui : gprOf (exec (.lui 2 0xBFC0) at20) 2 = some 0xBFC00000#32 := by decide

theorem test_add : gprOf (exec (.add 4 4 4) (x45 0x10 0)) 4 = some 0x20#32 ∧
    faultOf (exec (.add 2 4 5) (x45 0x80000000 0xFFFFFFFF)) = some .integerOverflow := by decide
theorem test_addu : gprOf (exec (.addu 2 4 5) (x45 0xFFFFFFFF 1)) 2 = some 0#32 ∧
    gprOf (exec (.addu 0 4 5) (x45 1 2)) 0 = some 0#32 := by decide
theorem test_sub : gprOf (exec (.sub 2 4 5) (x45 5 7)) 2 = some 0xFFFFFFFE#32 ∧
    faultOf (exec (.sub 2 4 5) (x45 0 0x80000000)) = some .integerOverflow := by decide
theorem test_subu : gprOf (exec (.subu 2 4 5) (x45 0 0x80000000)) 2 = some 0x80000000#32 := by decide
theorem test_slt : gprOf (exec (.slt 2 4 5) (x45 0xFFFFFFFF 1)) 2 = some 1#32 ∧
    gprOf (exec (.slt 2 4 5) (x45 3 3)) 2 = some 0#32 := by decide
theorem test_sltu : gprOf (exec (.sltu 2 4 5) (x45 0xFFFFFFFF 1)) 2 = some 0#32 ∧
    gprOf (exec (.sltu 2 0 5) (x45 0 1)) 2 = some 1#32 := by decide
theorem test_and : gprOf (exec (.and 2 4 5) (x45 0x0F0F0F0F 0x00FF00FF)) 2 = some 0x000F000F#32 := by decide
theorem test_or : gprOf (exec (.or 2 4 5) (x45 0x0F0F0F0F 0x00FF00FF)) 2 = some 0x0FFF0FFF#32 := by decide
theorem test_xor : gprOf (exec (.xor 2 4 5) (x45 0x0F0F0F0F 0x00FF00FF)) 2 = some 0x0FF00FF0#32 := by decide
theorem test_nor : gprOf (exec (.nor 2 4 5) (x45 0x0F0F0F0F 0x00FF00FF)) 2 = some 0xF000F000#32 := by decide

theorem test_sll : gprOf (exec (.sll 2 4 8) (x45 0x12345678 0)) 2 = some 0x34567800#32 := by decide
theorem test_srl : gprOf (exec (.srl 2 4 8) (x45 0x87654321 0)) 2 = some 0x00876543#32 := by decide
theorem test_sra : gprOf (exec (.sra 2 4 8) (x45 0x87654321 0)) 2 = some 0xFF876543#32 ∧
    gprOf (exec (.sra 2 4 31) (x45 0x7FFFFFFF 0)) 2 = some 0#32 := by decide
theorem test_sllv : gprOf (exec (.sllv 2 4 5) (x45 1 0x20)) 2 = some 1#32 ∧
    gprOf (exec (.sllv 2 4 5) (x45 1 0xFFFFFFFF)) 2 = some 0x80000000#32 := by decide
theorem test_srlv : gprOf (exec (.srlv 2 4 5) (x45 0x80000000 0x21)) 2 = some 0x40000000#32 := by decide
theorem test_srav : gprOf (exec (.srav 2 4 5) (x45 0x80000000 0x24)) 2 = some 0xF8000000#32 := by decide

theorem test_mult : hiLoOf (exec (.mult 4 5) (x45 0xFFFFFFFE 3)) = some (0xFFFFFFFF#32, 0xFFFFFFFA#32) ∧
    hiLoOf (exec (.mult 4 5) (x45 0x80000000 0x80000000)) = some (0x40000000#32, 0#32) := by decide
theorem test_multu : hiLoOf (exec (.multu 4 5) (x45 0xFFFFFFFE 3)) = some (2#32, 0xFFFFFFFA#32) := by decide
theorem test_div : hiLoOf (exec (.div 4 5) (x45 0xFFFFFFF9 2)) = some (0xFFFFFFFF#32, 0xFFFFFFFD#32) ∧
    hiLoOf (exec (.div 4 5) (x45 7 0xFFFFFFFE)) = some (1#32, 0xFFFFFFFD#32) := by decide
theorem test_divu : hiLoOf (exec (.divu 4 5) (x45 0xFFFFFFF9 2)) = some (1#32, 0x7FFFFFFC#32) := by decide
theorem test_mfhi_mflo :
    gprOf (exec (.mfhi 2) { at20 with hi := 0x12345678, lo := 0x9ABCDEF0 }) 2 = some 0x12345678#32 ∧
    gprOf (exec (.mflo 2) { at20 with hi := 0x12345678, lo := 0x9ABCDEF0 }) 2 = some 0x9ABCDEF0#32 := by decide
theorem test_mthi_mtlo :
    hiLoOf (exec (.mthi 4) { x45 0xCAFE0000 0 with hi := 1, lo := 2 }) = some (0xCAFE0000#32, 2#32) ∧
    hiLoOf (exec (.mtlo 4) { x45 0xCAFE0000 0 with hi := 1, lo := 2 }) = some (1#32, 0xCAFE0000#32) := by decide

theorem test_j : wayOf (exec (.j 0x100) { at20 with pc := 0x8FFFFFFC, npc := 0x90000000 }) =
    some (0x90000000#32, 0x90000400#32, true) := by decide
theorem test_jal : wayOf (exec (.jal 0x400) at20) = some (0x80000024#32, 0x80001000#32, true) ∧
    gprOf (exec (.jal 0x400) at20) 31 = some 0x80000028#32 := by decide
theorem test_jr : wayOf (exec (.jr 4) (x45 0x00400000 0)) = some (0x80000024#32, 0x00400000#32, true) ∧
    faultOf (exec (.jr 4) (x45 0x80000002 0)) = some .misalignedJumpTarget := by decide
theorem test_jalr : wayOf (exec (.jalr 4 4) (x45 0x80003000 0)) = some (0x80000024#32, 0x80003000#32, true) ∧
    gprOf (exec (.jalr 4 4) (x45 0x80003000 0)) 4 = some 0x80000028#32 := by decide
theorem test_beq : wayOf (exec (.beq 4 5 3) (x45 7 7)) = some (0x80000024#32, 0x80000030#32, true) ∧
    wayOf (exec (.beq 4 5 3) (x45 7 8)) = some (0x80000024#32, 0x80000028#32, true) := by decide
theorem test_bne : wayOf (exec (.bne 4 0 (-2)) (x45 1 0)) = some (0x80000024#32, 0x8000001C#32, true) ∧
    wayOf (exec (.bne 4 0 (-2)) (x45 0 0)) = some (0x80000024#32, 0x80000028#32, true) := by decide
theorem test_blez : wayOf (exec (.blez 4 4) (x45 0 0)) = some (0x80000024#32, 0x80000034#32, true) ∧
    wayOf (exec (.blez 4 4) (x45 1 0)) = some (0x80000024#32, 0x80000028#32, true) := by decide
theorem test_bgtz : wayOf (exec (.bgtz 4 4) (x45 0 0)) = some (0x80000024#32, 0x80000028#32, true) ∧
    wayOf (exec (.bgtz 4 4) (x45 0x7FFFFFFF 0)) = some (0x80000024#32, 0x80000034#32, true) := by decide
theorem test_bltz : wayOf (exec (.bltz 4 (-1)) (x45 0x80000000 0)) = some (0x80000024#32, 0x80000020#32, true) ∧
    wayOf (exec (.bltz 4 (-1)) (x45 0 0)) = some (0x80000024#32, 0x80000028#32, true) := by decide
theorem test_bgez : wayOf (exec (.bgez 4 0x8000) (x45 0 0)) = some (0x80000024#32, 0x7FFE0024#32, true) ∧
    wayOf (exec (.bgez 4 1) (x45 0xFFFFFFFF 0)) = some (0x80000024#32, 0x80000028#32, true) := by decide
theorem test_bltzal : gprOf (exec (.bltzal 4 16) (x45 1 0)) 31 = some 0x80000028#32 ∧
    wayOf (exec (.bltzal 31 16) (at20.setGpr 31 0x80000000)) = some (0x80000024#32, 0x80000064#32, true) := by decide
theorem test_bgezal : gprOf (exec (.bgezal 4 16) (x45 0x80000000 0)) 31 = some 0x80000028#32 ∧
    wayOf (exec (.bgezal 0 16) at20) = some (0x80000024#32, 0x80000064#32, true) := by decide
theorem test_branch_in_delay_slot :
    faultOf (exec (.beq 0 0 1) { at20 with ds := true }) = some .branchInDelaySlot := by decide

theorem test_syscall : trapOf (exec (.syscall 5) { at20 with sr := ⟨false, true, true⟩ }) =
    some (0x80000020#32, 0x14#32, 0x20#32, 0#32, 0xBFC00180#32) := by decide
theorem test_break_in_delay_slot :
    trapOf (exec (.brk 7) { at20 with pc := 0x80000024, ds := true, sr := ⟨false, false, true⟩ }) =
      some (0x80000020#32, 4#32, 0x80000024#32, 0#32, 0xBFC00180#32) := by decide
theorem test_mtc0 :
    (match exec (.mtc0 8 12) (at20.setGpr 8 0xFFFFFFFF) with | .next t => some t.sr.word | _ => none) = some 0x15#32 ∧
    (match exec (.mtc0 8 2) (at20.setGpr 8 0x1FC45FFF) with | .next t => some t.entryLo.word | _ => none) =
      some 0x1FC45200#32 := by decide
theorem test_mtc0_index_and_entryHi :
    (match exec (.mtc0 8 0) (at20.setGpr 8 0x300) with | .next t => some t.index | _ => none) = some 3#6 ∧
    (match exec (.mtc0 8 10) (at20.setGpr 8 0x00403ABC) with | .next t => some t.entryHi | _ => none) =
      some 0x00403#20 := by decide
theorem test_mfc0 : gprOf (exec (.mfc0 26 13) { at20 with cause := ⟨true, 1⟩ }) 26 = some 0x80000004#32 ∧
    gprOf (exec (.mfc0 8 2) { at20 with entryLo := ⟨0x1FC45, true⟩ }) 8 = some 0x1FC45200#32 := by decide
theorem test_mfc0_faults : faultOf (exec (.mfc0 8 3) at20) = some .unknownControlRegister ∧
    faultOf (exec (.mtc0 8 13) at20) = some .mtc0ToHardwareWrittenRegister := by decide
theorem test_tlbwi :
    (match exec .tlbwi { at20 with index := 3, entryHi := 0x00403, entryLo := ⟨0x1FC45, true⟩ } with
      | .next t => t.translate 0x00403ABC | _ => none) = some ⟨0x1FC45ABC, true⟩ := by decide
theorem test_tlbr :
    (match exec .tlbr { at20 with index := 5, tlb := State.reset.tlb.set 5 ⟨0xC0005, 0x00123, false⟩ } with
      | .next t => some (t.entryLo.word, vpnWord t.entryHi) | _ => none) = some (0x00123000#32, 0xC0005000#32) := by
  decide
/-- 95 L2.7: RFE on SR = 0x04, 0x05, 0x10, 0x15. -/
theorem test_rfe :
    ([⟨false, true, false⟩, ⟨false, true, true⟩, ⟨true, false, false⟩, ⟨true, true, true⟩].map fun r =>
      match exec .rfe { at20 with sr := r } with | .next t => some t.sr.word | _ => none) =
      [some 1#32, some 1#32, some 0x14#32, some 0x15#32] := by decide

/-! ### Exceptions, interrupts, reset, translation (95 L1, L2.1, L2.2, L2.8) -/

/-- The state of the data-miss rows of 95 L2.2. -/
def missDemo : State :=
  { (at20.setGpr 2 0x55555555).setGpr 3 0x00403ABC with
    sr := ⟨false, false, true⟩, tlb := State.reset.tlb.set 3 ⟨0x00403, 0x00100, false⟩ }

theorem test_data_miss : trapOf (exec (.lw 2 0 3) missDemo) =
    some (0x80000020#32, 4#32, 4#32, 0x00403ABC#32, 0xBFC00180#32) := by decide
theorem test_data_miss_in_delay_slot : trapOf (exec (.sw 2 0 3) { missDemo with pc := 0x80000024, ds := true }) =
    some (0x80000020#32, 4#32, 0x80000004#32, 0x00403ABC#32, 0xBFC00180#32) := by decide
theorem test_unaligned_miss_keeps_low_bits :
    trapOf (exec (.lwl 2 3 3) (at20.setGpr 3 0x00403ABE)) =
      some (0x80000020#32, 0#32, 4#32, 0x00403AC1#32, 0xBFC00180#32) := by decide

theorem test_interrupt_before_delay_slot :
    trapOf (step { at20 with pc := 0x80000024, ds := true, sr := ⟨false, true, true⟩, pins := [⟨false, true⟩] }) =
      some (0x80000020#32, 0x14#32, 0x80000000#32, 0#32, 0xBFC00180#32) := by decide
theorem test_interrupt_wins_over_fetch_miss :
    trapOf (step { at20 with pc := 0x00400010, sr := ⟨false, false, true⟩, pins := [⟨false, true⟩] }) =
      some (0x00400010#32, 4#32, 0#32, 0#32, 0xBFC00180#32) := by decide
theorem test_fetch_miss : trapOf (step { at20 with pc := 0x00401000, ds := true, sr := ⟨false, false, true⟩ }) =
    some (0x00400FFC#32, 4#32, 0x80000004#32, 0x00401000#32, 0xBFC00180#32) := by decide
theorem test_reset_event :
    (match step { bytesDemo with sr := ⟨true, true, true⟩, ds := true, pins := [⟨true, true⟩] } with
      | .next t => some (t.pc, t.npc, t.ds, t.sr.word, t.gpr 3) | _ => none) =
      some (0xBFC00000#32, 0xBFC00004#32, false, 0x14#32, 0x80000104#32) := by decide
/-- 41 R181 with OVERFLOW_MODE = trap and wrap (95 L2.3). -/
theorem test_overflow_trap_and_wrap :
    trapOf (exec (.addi 8 9 1) { at20.setGpr 9 0x7FFFFFFF with
      cfg := { Config.default with overflowMode := .trap }, sr := ⟨false, false, true⟩ }) =
        some (0x80000020#32, 4#32, 0x30#32, 0#32, 0xBFC00180#32) ∧
    gprOf (exec (.addi 8 9 1) { at20.setGpr 9 0x7FFFFFFF with
      cfg := { Config.default with overflowMode := .wrap } }) 8 = some 0x80000000#32 := by decide

theorem test_translate_fixed :
    State.reset.translate 0x9FFFFFFF = some ⟨0x1FFFFFFF, true⟩ ∧
    State.reset.translate 0xBFC00180 = some ⟨0x1FC00180, false⟩ ∧
    State.reset.translate 0xA0001234 = some ⟨0x00001234, false⟩ := by decide
theorem test_translate_mapped :
    { at20 with tlb := State.reset.tlb.set 3 ⟨0x00403, 0x1FC45, true⟩ }.translate 0x00403ABC = some ⟨0x1FC45ABC, true⟩ ∧
    { at20 with tlb := State.reset.tlb.set 3 ⟨0x00403, 0x1FC45, true⟩ }.translate 0x00443ABC = none ∧
    { at20 with tlb := State.reset.tlb.set 63 ⟨0x7FFFF, 0, true⟩ }.translate 0x7FFFFFFC = some ⟨0xFFC, true⟩ := by
  decide

theorem test_withFetchWord :
    decode (littleEndian ((State.reset.withFetchWord 32 0x24088000).mem.bytesAt 0x1FC00000 4)) = .ok (.addiu 8 0 0x8000) ∧
    gprOf (step (State.reset.withFetchWord 32 0x24088000)) 8 = some 0xFFFF8000#32 ∧
    gprOf (step ({ at20 with pc := 0x00400010, npc := 0x00400014 }.withFetchWord 32 0x24088000)) 8 =
      some 0xFFFF8000#32 := by decide

/-! ### States and operands that meet the hypotheses of the statements -/

/-- The outcome is a next state. -/
def goes (o : Out) : Bool :=
  match o with
  | .next _ => true
  | _ => false

theorem next_of_goes {o : Out} (h : goes o = true) : ∃ t, o = .next t := by
  cases o with
  | next t => exact ⟨t, rfl⟩
  | fault f => cases h
  | refused r => cases h

/-- ADDIU x8, x0, -32768 stands at pc in cached RAM. -/
def codeDemo : State := { at20 with mem := [(0x21, 0x80), (0x22, 0x08), (0x23, 0x24)] }

/-- The same in a delay slot, with registers, memory, W, U and TLB in use; the interrupt line is up, a reset is to come. -/
def busyDemo : State :=
  { (codeDemo.setGpr 4 7).setGpr 31 9 with
    npc := 0x80000100, ds := true, epc := 0x80000010, sr := ⟨true, true, false⟩,
    tlb := State.reset.tlb.set 3 ⟨0x00403, 0x1FC45, true⟩, storedWords := [0x100, 0x200], uncachedWords := [0x200],
    pins := [⟨false, true⟩, ⟨true, false⟩], draws := 5 }

/-- A machine with an I/O region, from 0x1F000000. -/
def ioDemo : State :=
  { at20 with cfg := { Config.default with physMap := ⟨0x1F000000, 0x100, .io⟩ :: Config.default.physMap } }

/-- x3 holds an address. -/
def x3 (s : State) (a : Word) : State := s.setGpr 3 a

/-- Another shift and mode. -/
def withMode (m : OverflowMode) (s : State) : State := { s with cfg := { s.cfg with overflowMode := m } }

theorem witness_EncodeOfDecodeIsIdentity : decode 0x8062FFFF#32 = .ok (.lb 2 (-1) 3) := by decide

theorem witness_DecoderAgreesWithOpcodeTable :
    (∃ i, decode 0x24088000#32 = .ok i) ∧ (⟨"ADDIU", 0x24000000#32, 0xFC000000#32⟩ : OpcodeRow) ∈ opcodeRows ∧
      (⟨"ADDIU", 0x24000000#32, 0xFC000000#32⟩ : OpcodeRow).selects 0x24088000#32 = true :=
  ⟨⟨.addiu 8 0 0x8000, by decide⟩, by decide, by decide⟩

theorem witness_StepRunsTheDecodedInstruction :
    codeDemo.pinsNow.reset = false ∧ (codeDemo.pinsNow.irq && codeDemo.sr.iec) = false ∧
      FetchesMemoryAt codeDemo ⟨0x20, true⟩ ∧ decode (codeDemo.wordAt 0x20) = .ok (.addiu 8 0 0x8000) := by
  unfold FetchesMemoryAt; decide

/-- The same with the interrupt line up and disabled, in a delay slot. -/
theorem witness_StepRunsTheDecodedInstruction_busy :
    busyDemo.pinsNow.reset = false ∧ (busyDemo.pinsNow.irq && busyDemo.sr.iec) = false ∧
      FetchesMemoryAt busyDemo ⟨0x20, true⟩ ∧ decode (busyDemo.wordAt 0x20) = .ok (.addiu 8 0 0x8000) := by
  unfold FetchesMemoryAt; decide

/-- The word there is 0x44000000, COP1. -/
theorem witness_ReservedWordStops :
    let s := { at20 with mem := [(0x23, 0x44)] }
    s.pinsNow.reset = false ∧ (s.pinsNow.irq && s.sr.iec) = false ∧ FetchesMemoryAt s ⟨0x20, true⟩ ∧
      ∀ r ∈ opcodeRows, r.selects (s.wordAt 0x20) = false := by
  unfold FetchesMemoryAt; decide

theorem witness_InterruptNeedsAnEnable_enabled :
    let s := { busyDemo with sr := ⟨false, false, true⟩ }
    s.pinsNow.reset = false ∧ s.pinsNow.irq = true ∧ s.sr.iec = true := by decide

theorem witness_InterruptNeedsAnEnable_disabled : busyDemo.sr.iec = false := by decide

/-- RFE in the delay slot of the return to EPC, under a held line. -/
def returnDemo : State :=
  { at20 with ds := true, npc := 0x80000100, epc := 0x80000100, sr := ⟨false, true, false⟩, heldPins := ⟨false, true⟩ }

theorem witness_InterruptNeedsAnEnable_held :
    returnDemo.pins = [] ∧ returnDemo.heldPins = ⟨false, true⟩ ∧ returnDemo.ds = true ∧
      returnDemo.npc = returnDemo.epc ∧ returnDemo.sr.iep = true ∧ ∃ t, exec .rfe returnDemo = .next t :=
  ⟨by decide, by decide, by decide, by decide, by decide, next_of_goes (by decide)⟩

/-- 60 R265: the interrupted program is re-entered at once, with the same EPC. -/
theorem test_held_interrupt_reenters :
    (match exec .rfe returnDemo with
      | .next t => trapOf (step t)
      | _ => none) = some (0x80000100#32, 4#32, 0#32, 0#32, 0xBFC00180#32) := by decide

/-- Every exception, taken in a delay slot with interrupts disabled and both backups set. -/
theorem witness_RfeUndoesTheTrapsPush (e : Exc) :
    TookTrap busyDemo (excCode busyDemo.cfg e) (badVaddrAfter busyDemo.badVaddr e) (busyDemo.trapEntry e) :=
  trapEntry_tookTrap busyDemo e

theorem witness_ResetSignalSetsFourItems : { busyDemo with pins := [⟨true, true⟩] }.pinsNow.reset = true := by decide

theorem witness_FetchMissIsTaken :
    let s := { busyDemo with pc := 0x7FFFFFFC }
    s.pinsNow.reset = false ∧ (s.pinsNow.irq && s.sr.iec) = false ∧ s.translate s.pc = none := by decide

theorem witness_StepKeepsTheInvariant : Inv busyDemo ∧ ∃ t, step busyDemo = .next t :=
  ⟨{ regZero := by decide, pcAligned := by unfold wordAligned; decide, npcAligned := by unfold wordAligned; decide,
     epcAligned := by unfold wordAligned; decide, sequential := by decide, memWf := by decide,
     storedWf := by unfold WordSet.wf; decide, uncachedWf := by unfold WordSet.wf; decide,
     uncachedStored := by decide }, next_of_goes (by decide)⟩

/-- A step that stores, from a state that meets the invariant: SW x4, 0(x0) in kuseg, mapped. -/
theorem witness_StepKeepsTheInvariant_store :
    let s := { at20.setGpr 4 7 with mem := [(0x22, 0x04), (0x23, 0xAC)], tlb := State.reset.tlb.set 0 ⟨0, 1, true⟩ }
    Inv s ∧ ∃ t, step s = .next t :=
  ⟨{ regZero := by decide, pcAligned := by unfold wordAligned; decide, npcAligned := by unfold wordAligned; decide,
     epcAligned := by unfold wordAligned; decide, sequential := by decide, memWf := by decide,
     storedWf := by unfold WordSet.wf; decide, uncachedWf := by unfold WordSet.wf; decide,
     uncachedStored := by decide }, next_of_goes (by decide)⟩

/-- Every clause: any address, an even one, a multiple of 4; the ends of kuseg and kseg2. -/
theorem witness_DataMissIsTaken :
    (x3 at20 0x7FFFFFFF).translate ((x3 at20 0x7FFFFFFF).effectiveAddress 3 0) = none ∧
    (x3 at20 0xC0000000).translate ((x3 at20 0xC0000000).effectiveAddress 3 2) = none ∧
    ((x3 at20 0xC0000000).effectiveAddress 3 2).getLsbD 0 = false ∧
    (x3 at20 0).translate ((x3 at20 0).effectiveAddress 3 (-4)) = none ∧
    wordAligned ((x3 at20 0).effectiveAddress 3 (-4)) := by
  unfold wordAligned; decide

theorem witness_ReturnSequenceResumesAtEpc :
    (27 : Reg) ≠ 0 ∧ { at20 with epc := 0x80000010 }.ds = false ∧ wordAligned { at20 with epc := 0x80000010 }.epc := by
  unfold wordAligned; decide

/-- Sums of 2^31 - 1 by ADDI and ADD, a difference of -2^31 by SUB. -/
theorem witness_CheckedArithmeticInRange :
    let s := x45 0x7FFFFFFE 1
    let u := x45 0x80000001 1
    (-2 ^ 31 ≤ (s.gpr 4).toInt + (1 : Imm16).toInt ∧ (s.gpr 4).toInt + (1 : Imm16).toInt < 2 ^ 31) ∧
    (-2 ^ 31 ≤ (s.gpr 4).toInt + (s.gpr 5).toInt ∧ (s.gpr 4).toInt + (s.gpr 5).toInt < 2 ^ 31) ∧
    -2 ^ 31 ≤ (u.gpr 4).toInt - (u.gpr 5).toInt ∧ (u.gpr 4).toInt - (u.gpr 5).toInt < 2 ^ 31 := by decide

/-- ADDI by one too many, ADD by one too few, SUB from zero of -2^31; in each of the three modes. -/
theorem witness_OverflowIsHandledByMode :
    (∀ m ∈ [OverflowMode.fault, .trap, .wrap], (withMode m (x45 0x7FFFFFFF 0)).cfg.overflowMode = m ∧
      2 ^ 31 ≤ ((withMode m (x45 0x7FFFFFFF 0)).gpr 4).toInt + (1 : Imm16).toInt) ∧
    ((x45 0x80000000 0xFFFFFFFF).gpr 4).toInt + ((x45 0x80000000 0xFFFFFFFF).gpr 5).toInt < -2 ^ 31 ∧
    2 ^ 31 ≤ ((x45 0 0x80000000).gpr 4).toInt - ((x45 0 0x80000000).gpr 5).toInt := by decide

theorem witness_DivideGivesQuotientAndRemainder :
    (x45 0x80000000 1).gpr 5 ≠ 0 ∧ ¬((x45 0x80000000 1).gpr 4 = 0x80000000 ∧ (x45 0x80000000 1).gpr 5 = 0xFFFFFFFF) ∧
      (x45 0x80000000 0xFFFFFFFF).gpr 5 ≠ 0 := by decide

theorem witness_DivideCornersGoOn :
    (x45 7 0).gpr 5 = 0 ∧ (x45 0x80000000 0xFFFFFFFF).gpr 4 = 0x80000000 ∧
      (x45 0x80000000 0xFFFFFFFF).gpr 5 = 0xFFFFFFFF := by decide

/-- The region of the delay slot, not of the jump; the largest index. -/
theorem witness_RegionJumpResults :
    let s := { at20 with pc := 0x8FFFFFFC, npc := 0x90000000 }
    s.ds = false ∧ (0x9FFFFFFC#32).toNat = (s.pc + 4).toNat / 2 ^ 28 * 2 ^ 28 + (0x3FFFFFF#26).toNat * 4 := by decide

theorem witness_RegisterJumpResults : (x45 0x80003000 0).ds = false ∧ wordAligned ((x45 0x80003000 0).gpr 4) := by
  unfold wordAligned; decide

theorem witness_MisalignedJumpStops : (x45 0x80003001 0).ds = false ∧ ¬wordAligned ((x45 0x80003001 0).gpr 4) := by
  unfold wordAligned; decide

/-- With another BRANCH_OFFSET_SHIFT. -/
def withShift (n : Nat) (s : State) : State := { s with cfg := { s.cfg with branchOffsetShift := n } }

/-- BEQ taken at shift 2, and at shift 0 to a multiple of 4; BNE not taken at shift 0, where its target is none. -/
theorem witness_BranchResults :
    ((x45 7 7).ds = false ∧
      0x7FFE0024#32 = (x45 7 7).pc + 4 + (0x8000 : Imm16).signExtend 32 <<< (x45 7 7).cfg.branchOffsetShift ∧
      (x45 7 7).gpr 4 = (x45 7 7).gpr 5 ∧ wordAligned (x45 7 7).pc ∧ 2 ≤ (x45 7 7).cfg.branchOffsetShift) ∧
    (let s := withShift 0 (x45 7 7);
      s.ds = false ∧ 0x80000028#32 = s.pc + 4 + (4 : Imm16).signExtend 32 <<< s.cfg.branchOffsetShift ∧
        s.gpr 4 = s.gpr 5 ∧ wordAligned 0x80000028#32 ∧
        0x80000027#32 = s.pc + 4 + (3 : Imm16).signExtend 32 <<< s.cfg.branchOffsetShift ∧
        ¬s.gpr 4 ≠ s.gpr 5 ∧ ¬wordAligned 0x80000027#32) := by
  unfold wordAligned; decide

/-- The conditions on zero, each taken by a boundary value. -/
theorem witness_BranchResults_zero :
    ((x45 0 0).gpr 4).toInt ≤ 0 ∧ 0 < ((x45 1 0).gpr 4).toInt ∧ ((x45 0xFFFFFFFF 0).gpr 4).toInt < 0 ∧
      0 ≤ ((x45 0 0).gpr 4).toInt ∧ ¬((x45 1 0).gpr 4).toInt ≤ 0 ∧ ¬0 < ((x45 0 0).gpr 4).toInt := by decide

/-- BLTZAL taken at shift 2, and not taken at shift 0, where its target is no multiple of 4. -/
theorem witness_LinkingBranchResults :
    ((x45 0x80000000 0).ds = false ∧
      0x80020020#32 = (x45 0x80000000 0).pc + 4 +
        (0x7FFF : Imm16).signExtend 32 <<< (x45 0x80000000 0).cfg.branchOffsetShift ∧
      ((x45 0x80000000 0).gpr 4).toInt < 0 ∧ wordAligned (x45 0x80000000 0).pc ∧
      2 ≤ (x45 0x80000000 0).cfg.branchOffsetShift) ∧
    (let s := withShift 0 (x45 0 0);
      s.ds = false ∧ 0x80000027#32 = s.pc + 4 + (3 : Imm16).signExtend 32 <<< s.cfg.branchOffsetShift ∧
        ¬(s.gpr 4).toInt < 0 ∧ 0 ≤ (s.gpr 4).toInt ∧ ¬wordAligned 0x80000027#32) := by
  unfold wordAligned; decide

/-- 43 R220 with BRANCH_OFFSET_SHIFT = 0: a taken branch to a multiple of 4, and an untaken one that links. -/
theorem test_branch_shift_zero :
    wayOf (exec (.beq 4 5 4) (withShift 0 (x45 7 7))) = some (0x80000024#32, 0x80000028#32, true) ∧
    gprOf (exec (.bltzal 4 3) (withShift 0 (x45 0 0))) 31 = some 0x80000028#32 := by decide

/-- BRANCH_OFFSET_SHIFT = 0, offset 3 (95 L2.5's last remark): taken on equal, unequal, zero, positive, negative. -/
theorem witness_MisalignedBranchStops :
    (∀ s ∈ [x45 7 7, x45 7 8, x45 0 0, x45 0x80000000 0],
      let t := { s with cfg := { Config.default with branchOffsetShift := 0 } }
      t.ds = false ∧ ¬wordAligned (t.pc + 4 + (3 : Imm16).signExtend 32 <<< t.cfg.branchOffsetShift)) ∧
    (x45 7 7).gpr 4 = (x45 7 7).gpr 5 ∧ (x45 7 8).gpr 4 ≠ (x45 7 8).gpr 5 ∧ ((x45 0 0).gpr 4).toInt ≤ 0 ∧
    0 < ((x45 7 7).gpr 4).toInt ∧ ((x45 0x80000000 0).gpr 4).toInt < 0 ∧ 0 ≤ ((x45 0 0).gpr 4).toInt := by
  unfold wordAligned; decide

theorem witness_JumpInDelaySlotStops : busyDemo.ds = true ∧ (Instr.bgezal 0 16).isJumpOrBranch = true := by decide

/-- LW in a delay slot that goes on, LW that misses; a branch, and its delay-slot instruction. -/
theorem witness_DelaySlotThenTarget :
    (Instr.lw 2 0 3).isJumpOrBranch = false ∧ (∃ t, exec (.lw 2 0 3) { bytesDemo with ds := true } = .next t) ∧
      (∃ t, exec (.lw 2 0 3) missDemo = .next t) ∧ (Instr.beq 0 0 3).isJumpOrBranch = true ∧
      (∃ t, exec (.beq 0 0 3) at20 = .next t) ∧ ∃ u, exec (.addu 2 4 5) { at20 with ds := true } = .next u :=
  ⟨by decide, next_of_goes (by decide), next_of_goes (by decide), by decide, next_of_goes (by decide),
    next_of_goes (by decide)⟩

theorem witness_IllFormedControlMoveStops :
    (1 : Reg) ∉ controlRegisters ∧ (31 : Reg) ∉ controlRegisters ∧ (15 : Reg) ∉ controlRegisters ∧
      (9 : Reg) ∈ [9, 13, 14] ∧ (14 : Reg) ∈ [9, 13, 14] := by decide

/-- Every clause: kseg0, another slot, the written slot with its page and with another. -/
theorem witness_TlbWriteThenTranslate :
    let s := { at20 with index := 3, entryHi := 0x00403, entryLo := ⟨0x1FC45, true⟩ }
    (∃ t, exec .tlbwi s = .next t) ∧ (0x80003000#32).extractLsb' 30 2 = 0b10#2 ∧
      (0x00404000#32).extractLsb' 12 6 ≠ s.index ∧ (0x00403ABC#32).extractLsb' 30 2 ≠ 0b10#2 ∧
      (0x00403ABC#32).extractLsb' 12 6 = s.index ∧ s.entryHi = (0x00403ABC#32).extractLsb' 12 20 ∧
      (0x00443ABC#32).extractLsb' 12 6 = s.index ∧ s.entryHi ≠ (0x00443ABC#32).extractLsb' 12 20 :=
  ⟨next_of_goes (by decide), by decide⟩

theorem witness_AddressTranslation_unmapped :
    ∀ la ∈ [0x80000000#32, 0x9FFFFFFF#32, 0xA0000000#32, 0xBFFFFFFF#32],
      0x80000000 ≤ la.toNat ∧ la.toNat < 0xC0000000 := by simp

theorem witness_AddressTranslation_mapped :
    ∀ la ∈ [0#32, 0x7FFFFFFF#32, 0xC0000000#32, 0xFFFFFFFF#32], la.toNat < 0x80000000 ∨ 0xC0000000 ≤ la.toNat := by
  simp

/-- Byte at an odd address of cached RAM, halfword, word; the word of uncached ROM. -/
theorem witness_AlignedLoadResults :
    ReadsMemoryAt bytesDemo (bytesDemo.effectiveAddress 3 (-1)) ⟨0x103, true⟩ ∧
    ReadsMemoryAt bytesDemo (bytesDemo.effectiveAddress 3 2) ⟨0x106, true⟩ ∧
    (bytesDemo.effectiveAddress 3 2).getLsbD 0 = false ∧
    ReadsMemoryAt bytesDemo (bytesDemo.effectiveAddress 3 (-4)) ⟨0x100, true⟩ ∧
    wordAligned (bytesDemo.effectiveAddress 3 (-4)) ∧
    ReadsMemoryAt (x3 at20 0xBFC00000) ((x3 at20 0xBFC00000).effectiveAddress 3 0) ⟨0x1FC00000, false⟩ ∧
    wordAligned ((x3 at20 0xBFC00000).effectiveAddress 3 0) := by
  unfold ReadsMemoryAt wordAligned; decide

theorem witness_UnalignedLoadResults :
    ReadsMemoryAt bytesDemo (bytesDemo.effectiveAddress 3 0) ⟨0x104, true⟩ ∧
    (bytesDemo.effectiveAddress 3 0).toNat % 4 = 0 ∧
    ReadsMemoryAt bytesDemo (bytesDemo.effectiveAddress 3 1) ⟨0x105, true⟩ ∧
    (bytesDemo.effectiveAddress 3 1).toNat % 4 = 1 ∧
    ReadsMemoryAt bytesDemo (bytesDemo.effectiveAddress 3 2) ⟨0x106, true⟩ ∧
    (bytesDemo.effectiveAddress 3 2).toNat % 4 = 2 ∧
    ReadsMemoryAt bytesDemo (bytesDemo.effectiveAddress 3 3) ⟨0x107, true⟩ ∧
    (bytesDemo.effectiveAddress 3 3).toNat % 4 = 3 := by
  unfold ReadsMemoryAt; decide

/-- The idiom of 95 L2.2, from 0x80000101. -/
theorem witness_UnalignedPairLoadsTheWord :
    (2 : Reg) ≠ 0 ∧ (2 : Reg) ≠ 3 ∧
    ReadsMemoryAt (x3 bytesDemo 0x80000101) ((x3 bytesDemo 0x80000101).gpr 3) ⟨0x101, true⟩ ∧
    ReadsMemoryAt (x3 bytesDemo 0x80000101) ((x3 bytesDemo 0x80000101).gpr 3 + 3) ⟨0x104, true⟩ := by
  unfold ReadsMemoryAt; decide

theorem test_unaligned_pair :
    (match exec (.lwr 2 0 3) (x3 bytesDemo 0x80000101) with
      | .next t => gprOf (exec (.lwl 2 3 3) t) 2
      | _ => none) = some 0xC4332211#32 := by decide

theorem witness_AlignedStoreResults :
    WritesRamAt bytesDemo (bytesDemo.effectiveAddress 3 1) ⟨0x105, true⟩ ∧
    WritesRamAt bytesDemo (bytesDemo.effectiveAddress 3 2) ⟨0x106, true⟩ ∧
    (bytesDemo.effectiveAddress 3 2).getLsbD 0 = false ∧
    WritesRamAt (x3 bytesDemo 0xA0FFFFFC) ((x3 bytesDemo 0xA0FFFFFC).effectiveAddress 3 0) ⟨0xFFFFFC, false⟩ ∧
    wordAligned ((x3 bytesDemo 0xA0FFFFFC).effectiveAddress 3 0) := by
  unfold WritesRamAt wordAligned; decide

theorem witness_UnalignedStoreResults :
    WritesRamAt bytesDemo (bytesDemo.effectiveAddress 3 0) ⟨0x104, true⟩ ∧
    (bytesDemo.effectiveAddress 3 0).toNat % 4 = 0 ∧
    WritesRamAt bytesDemo (bytesDemo.effectiveAddress 3 3) ⟨0x107, true⟩ ∧
    (bytesDemo.effectiveAddress 3 3).toNat % 4 = 3 := by
  unfold WritesRamAt; decide

theorem witness_StoreThenLoadGivesTheWord :
    WritesRamAt bytesDemo (bytesDemo.effectiveAddress 3 0) ⟨0x104, true⟩ ∧
    wordAligned (bytesDemo.effectiveAddress 3 0) ∧ (4 : Reg) ≠ 0 := by
  unfold WritesRamAt wordAligned; decide

theorem witness_MisalignedAccessStops :
    (bytesDemo.effectiveAddress 3 1).getLsbD 0 = true ∧ ¬wordAligned (bytesDemo.effectiveAddress 3 2) ∧
      ¬wordAligned (bytesDemo.effectiveAddress 3 1) := by
  unfold wordAligned; decide

/-- The four clauses, at word addresses that every width may use: unpopulated, cached I/O, ROM, and a word of RAM that was
stored to uncached; an odd and an even address for the narrower shapes. -/
theorem witness_PhysicalAccessStops :
    (x3 ioDemo 0x81000000).translate ((x3 ioDemo 0x81000000).effectiveAddress 3 0) = some ⟨0x01000000, true⟩ ∧
    kindAt ioDemo.cfg 0x01000000 = none ∧
    (x3 ioDemo 0x9F000000).translate ((x3 ioDemo 0x9F000000).effectiveAddress 3 0) = some ⟨0x1F000000, true⟩ ∧
    kindAt ioDemo.cfg 0x1F000000 = some .io ∧
    (x3 ioDemo 0xBFC0FFFC).translate ((x3 ioDemo 0xBFC0FFFC).effectiveAddress 3 0) = some ⟨0x1FC0FFFC, false⟩ ∧
    kindAt ioDemo.cfg 0x1FC0FFFC = some .rom ∧
    (x3 busyDemo 0x80000200).translate ((x3 busyDemo 0x80000200).effectiveAddress 3 0) = some ⟨0x200, true⟩ ∧
    kindAt busyDemo.cfg 0x200 = some .ram ∧ busyDemo.cfg.strictCache = true ∧
    busyDemo.uncachedWords.has (wordOf 0x200).toNat = true ∧
    wordAligned ((x3 busyDemo 0x80000200).effectiveAddress 3 0) ∧
    ((x3 busyDemo 0x80000200).effectiveAddress 3 2).getLsbD 0 = false ∧
    kindAt busyDemo.cfg 0x00FFFFFF = some .ram ∧ kindAt busyDemo.cfg 0x01000000 = none := by
  unfold wordAligned; decide

/-- The blind spot of a cached load at a word of ROM. -/
theorem witness_PhysicalAccessStops_rom :
    let s := { x3 at20 0x9FC00000 with uncachedWords := [0x1FC00000] }
    s.translate (s.effectiveAddress 3 0) = some ⟨0x1FC00000, true⟩ ∧ kindAt s.cfg 0x1FC00000 = some .rom ∧
      s.cfg.strictCache = true ∧ s.uncachedWords.has (wordOf 0x1FC00000).toNat = true ∧
      wordAligned (s.effectiveAddress 3 0) := by
  unfold wordAligned; decide

/-- A fetch just above RAM, and one of a device through kseg0. -/
theorem witness_PhysicalAccessStops_fetch :
    (let s := { at20 with pc := 0x81000000 };
      s.pinsNow.reset = false ∧ (s.pinsNow.irq && s.sr.iec) = false ∧ s.translate s.pc = some ⟨0x01000000, true⟩ ∧
        kindAt s.cfg 0x01000000 = none) ∧
    (let s := { ioDemo with pc := 0x9F000000 };
      s.pinsNow.reset = false ∧ (s.pinsNow.irq && s.sr.iec) = false ∧ s.translate s.pc = some ⟨0x1F000000, true⟩ ∧
        kindAt s.cfg 0x1F000000 = some .io) := by decide

theorem witness_CachedFetchAfterStoreStops :
    let s := { codeDemo with storedWords := [0x20] }
    s.pinsNow.reset = false ∧ (s.pinsNow.irq && s.sr.iec) = false ∧ s.translate s.pc = some ⟨0x20, true⟩ ∧
      kindAt s.cfg 0x20 = some .ram ∧ s.cfg.strictCache = true ∧ s.storedWords.has (wordOf 0x20).toNat = true := by
  decide

/-- The first byte of the region, for every width; its last halfword; its last byte, whose word starts three below. -/
theorem witness_DeviceReadHappensOnce :
    ReachesIoAt (x3 ioDemo 0xBF000000) ((x3 ioDemo 0xBF000000).effectiveAddress 3 0) ⟨0x1F000000, false⟩ ∧
    0 = ((x3 ioDemo 0xBF000000).effectiveAddress 3 0).toNat % 4 ∧
    ReachesIoAt (x3 ioDemo 0xBF0000FE) ((x3 ioDemo 0xBF0000FE).effectiveAddress 3 0) ⟨0x1F0000FE, false⟩ ∧
    2 = ((x3 ioDemo 0xBF0000FE).effectiveAddress 3 0).toNat % 4 ∧
    ReachesIoAt (x3 ioDemo 0xBF0000FF) ((x3 ioDemo 0xBF0000FF).effectiveAddress 3 0) ⟨0x1F0000FF, false⟩ ∧
    3 = ((x3 ioDemo 0xBF0000FF).effectiveAddress 3 0).toNat % 4 ∧ 0x1F0000FC = (0x1F0000FF#32).toNat - 3 := by
  unfold ReachesIoAt; decide

theorem witness_DeviceWriteHappensOnce :
    ReachesIoAt (x3 ioDemo 0xBF000000) ((x3 ioDemo 0xBF000000).effectiveAddress 3 0) ⟨0x1F000000, false⟩ ∧
    0 = ((x3 ioDemo 0xBF000000).effectiveAddress 3 0).toNat % 4 ∧
    ReachesIoAt (x3 ioDemo 0xBF0000FF) ((x3 ioDemo 0xBF0000FF).effectiveAddress 3 0) ⟨0x1F0000FF, false⟩ ∧
    3 = ((x3 ioDemo 0xBF0000FF).effectiveAddress 3 0).toNat % 4 ∧
    ReachesIoAt (x3 ioDemo 0xBF0000FE) ((x3 ioDemo 0xBF0000FE).effectiveAddress 3 0) ⟨0x1F0000FE, false⟩ ∧
    2 = ((x3 ioDemo 0xBF0000FE).effectiveAddress 3 0).toNat % 4 := by
  unfold ReachesIoAt; decide

/-- 20 R92: a load of a device goes on, and is recorded once. -/
theorem test_device_read :
    (match exec (.lw 2 0 3) (x3 ioDemo 0xBF000000) with
      | .next t => some (t.io, t.draws)
      | _ => none) = some ([.read 0x1F000000 4], 1) := by decide

theorem witness_OnlyStoresChangeMemory :
    (Instr.lw 2 0 3).isStore = false ∧ ∃ t, exec (.lw 2 0 3) bytesDemo = .next t :=
  ⟨by decide, next_of_goes (by decide)⟩

/-- A step that stores to RAM, and the first and last byte of ROM. -/
theorem witness_RomNeverChanges :
    let s := { at20.setGpr 4 7 with mem := [(0x22, 0x04), (0x23, 0xAC)], tlb := State.reset.tlb.set 0 ⟨0, 1, true⟩ }
    (∃ t, step s = .next t) ∧ kindAt s.cfg 0x1FC00000 = some .rom ∧ kindAt s.cfg 0x1FC0FFFF = some .rom :=
  ⟨next_of_goes (by decide), by decide⟩

/-- Every clause: an address of kseg1; a mapped address that goes to high memory; a step that stores, while every valid
frame lies below 0x20000000. -/
theorem witness_HighMemoryNeedsTheTlb :
    let s := { at20.setGpr 4 7 with
      mem := [(0x22, 0x04), (0x23, 0xAC)], tlb := (State.reset.tlb.set 0 ⟨0, 1, true⟩).set 1 ⟨1, 0x1FFFF, true⟩ }
    (0xBFFFFFFF#32).extractLsb' 30 2 = 0b10#2 ∧
      (({ at20 with tlb := State.reset.tlb.set 0 ⟨0, 0x20000, true⟩ } : State).translate 0 = some ⟨0x20000000, true⟩ ∧
        0x20000000 ≤ (0x20000000#32).toNat) ∧
      (∃ t, step s = .next t) ∧
      (∀ (k : Nat) (hk : k < 64), s.tlb[k].v = true → s.tlb[k].pfn.toNat * 2 ^ 12 < 0x20000000) ∧
      0x20000000 ≤ 0x20000000 :=
  ⟨by decide, by decide, next_of_goes (by decide), by decide, by decide⟩

theorem witness_SpecialRegistersHaveFewWriters :
    (∃ t, exec .rfe busyDemo = .next t) ∧
      (∀ rs rt, Instr.rfe ≠ .mult rs rt ∧ Instr.rfe ≠ .multu rs rt ∧ Instr.rfe ≠ .div rs rt ∧
        Instr.rfe ≠ .divu rs rt ∧ Instr.rfe ≠ .mthi rs ∧ Instr.rfe ≠ .mtlo rs) ∧
      Instr.rfe ≠ .tlbwi ∧ ∀ rt, Instr.rfe ≠ .mtc0 rt 0 :=
  ⟨next_of_goes (by decide), by simp, by simp, by simp⟩

/-- A step that goes on, and one that takes an exception. -/
theorem witness_HardwareWrittenRegistersNeedATrap :
    (∃ t, step codeDemo = .next t) ∧ ∃ t, step { busyDemo with sr := ⟨false, false, true⟩ } = .next t :=
  ⟨next_of_goes (by decide), next_of_goes (by decide)⟩

theorem witness_StatusRegisterHasFewWriters :
    (∃ t, exec (.syscall 0) busyDemo = .next t) ∧ (∀ rt, Instr.syscall 0 ≠ .mtc0 rt 12) ∧ Instr.syscall 0 ≠ .rfe :=
  ⟨next_of_goes (by decide), by simp, by simp⟩

end Sys2Proof.Tests
end

section
/-! SUPPORT. Proofs for 10_state: what an instruction can do, said once for all 63 (`exec_next`), and the rules over
all instructions and all steps derived from it. -/

namespace Sys2Proof.Machine

/-! ### Alignment (10 R25, R26, R41) -/

theorem wordAligned_iff (a : Word) : wordAligned a ↔ a.toNat % 4 = 0 := by
  unfold wordAligned
  rw [← BitVec.toNat_inj]
  simp [BitVec.extractLsb'_toNat]

theorem wordAligned_add_four {a : Word} (h : wordAligned a) : wordAligned (a + 4#32) := by
  rw [wordAligned_iff] at *
  bv_omega

theorem wordAligned_sub_four {a : Word} (h : wordAligned a) : wordAligned (a - 4#32) := by
  rw [wordAligned_iff] at *
  bv_omega

theorem wordOf_aligned (a : Word) : wordAligned (wordOf a) := by
  unfold wordAligned wordOf
  ext k hk
  have hlow : (0xFFFFFFFC#32).getLsbD k = false := by
    interval_cases k <;> rfl
  simp [hlow]

/-! ### Words from bytes (20 R72) -/

/-- The bits of bytes laid end to end: the first byte's, then those of the rest. -/
theorem getLsbD_littleEndian_cons (b : Byte) (bs : List Byte) {k : Nat} (hk : k < 32) :
    (littleEndian (b :: bs)).getLsbD k = if k < 8 then b.getLsbD k else (littleEndian bs).getLsbD (k - 8) := by
  rw [littleEndian, BitVec.getLsbD_or, BitVec.getLsbD_shiftLeft, BitVec.getLsbD_setWidth]
  by_cases h : k < 8
  · simp [h, hk]
  · have hb : b.getLsbD k = false := BitVec.getLsbD_of_ge b k (by omega)
    rw [if_neg h, hb]
    simp [h, hk]

theorem littleEndian_four (b0 b1 b2 b3 : Byte) : littleEndian [b0, b1, b2, b3] = b3 ++ (b2 ++ (b1 ++ b0)) := by
  refine BitVec.eq_of_getLsbD_eq fun k hk => ?_
  simp only [BitVec.getLsbD_append]
  rw [getLsbD_littleEndian_cons _ _ hk, getLsbD_littleEndian_cons _ _ (by omega),
    getLsbD_littleEndian_cons _ _ (by omega), getLsbD_littleEndian_cons _ _ (by omega)]
  grind

/-- The four bytes memory holds from an address up, read as a fetch or LW reads them, are the word there. -/
theorem littleEndian_bytesAt_four (s : State) (pa : Word) : littleEndian (s.mem.bytesAt pa 4) = s.wordAt pa :=
  littleEndian_four (s.byteAt pa 0) (s.byteAt pa 1) (s.byteAt pa 2) (s.byteAt pa 3)

/-! ### Jumps (10 R30, 43 R220, R223) -/

/-- Outside a delay slot a jump to a misaligned target stops, before any link is written. -/
theorem jump_misaligned {s : State} {a : Word} (link : Option (Reg × Word)) (hd : s.ds = false) (ha : ¬wordAligned a) :
    s.jump (some a) link = .fault .misalignedJumpTarget := by
  have ha : a.extractLsb' 0 2 ≠ 0#2 := ha
  simp [State.jump, hd, ha]

/-- A taken branch to a misaligned target stops, whether or not it links. -/
theorem branch_misaligned {s : State} {imm : Imm16} {taken : Bool} (link : Option Reg) (ht : taken = true)
    (hd : s.ds = false) (ha : ¬wordAligned (s.branchTarget imm)) :
    s.branch taken imm link = .fault .misalignedJumpTarget := by
  subst ht
  exact jump_misaligned _ hd ha

theorem isNegative_iff (a : Word) : isNegative a = true ↔ a.toInt < 0 := by
  simp [isNegative, BitVec.msb_eq_toInt]

theorem not_isNegative_iff (a : Word) : (!isNegative a) = true ↔ 0 ≤ a.toInt := by
  simp [isNegative, BitVec.msb_eq_toInt]

theorem isNegative_or_zero_iff (a : Word) : (isNegative a || a == 0#32) = true ↔ a.toInt ≤ 0 := by
  have hz : a = 0#32 ↔ a.toInt = 0 := by rw [← BitVec.toInt_inj]; rfl
  rw [Bool.or_eq_true, isNegative_iff, beq_iff_eq, hz]
  omega

theorem not_isNegative_and_nonzero_iff (a : Word) : (!isNegative a && a != 0#32) = true ↔ 0 < a.toInt := by
  have hz : a = 0#32 ↔ a.toInt = 0 := by rw [← BitVec.toInt_inj]; rfl
  rw [Bool.and_eq_true, not_isNegative_iff, bne_iff_ne, ne_eq, hz]
  omega

/-! ### What an instruction can do (10 R27 steps 6 and 7) -/

/-- The six instructions that name HI or LO as destination (10 R24). -/
def WritesHiLo (i : Instr) : Prop :=
  ∃ rs rt, i = .mult rs rt ∨ i = .multu rs rt ∨ i = .div rs rt ∨ i = .divu rs rt ∨ i = .mthi rs ∨ i = .mtlo rs

/-- What the body of an instruction begun in s, other than a jump or branch, can have written before control moves. -/
inductive Wrote (s : State) : Instr → State → Prop
  /-- A general register, from state alone or after one read; nothing, where r is register 0. -/
  | reg {i : Instr} {u : State} (r : Reg) (v : Word) (hu : ReadFrame s u) : Wrote s i (u.setGpr r v)
  /-- HI and LO; at a division corner a free value is taken. -/
  | hiLo {i : Instr} (hi lo : Word) (draws : Nat) (hw : WritesHiLo i) :
    Wrote s i { s with hi := hi, lo := lo, draws := draws }
  /-- One store access. -/
  | store {i : Instr} {p : PhysAddr} {a : Word} {bytes : List Byte} {u : State} (hi : i.isStore = true)
    (hw : s.writePhys p (cellsFrom a bytes) = .ok () u) : Wrote s i u
  | control {rt rd : Reg} {u : State} (hw : s.writeControl rd (s.gpr rt) = .ok () u) : Wrote s (.mtc0 rt rd) u
  | tlbr : Wrote s .tlbr s.tlbRead
  | tlbwi : Wrote s .tlbwi s.tlbWrite
  | rfe : Wrote s .rfe s.returnFromException

/-- How an instruction begun in s can complete: on in sequence, into an exception, or, for a jump or branch, to its
delay slot. A jump that links nothing is one whose link register is register 0. -/
inductive Completes (s : State) (i : Instr) : State → Prop
  | wentOn {u : State} (hj : i.isJumpOrBranch = false) (hu : Wrote s i u) : Completes s i u.advance
  | trapped (e : Exc) (hj : i.isJumpOrBranch = false) : Completes s i (s.trapEntry e)
  | jumped {target : Option Word} (r : Reg) (v : Word) (hj : i.isJumpOrBranch = true) (hd : s.ds = false)
    (ha : wordAligned (target.getD 0#32)) : Completes s i ((s.setGpr r v).advanceTo target)

theorem ReadFrame.refl (s : State) : ReadFrame s s := by
  constructor <;> rfl

theorem memRead_frame {s u : State} {la v : Word} {n : Nat} (h : s.memRead la n = .ok v u) : ReadFrame s u :=
  let ⟨_, _, hr⟩ := memRead_ok h
  readPhys_frame hr

theorem memReadWordOf_frame {s u : State} {la v : Word} (h : s.memReadWordOf la = .ok v u) : ReadFrame s u :=
  let ⟨_, _, hr⟩ := memReadWordOf_ok h
  readPhys_frame hr

theorem readControl_frame {s u : State} {rd : Reg} {v : Word} (h : s.readControl rd = .ok v u) : ReadFrame s u := by
  obtain rfl | ⟨-, rfl⟩ := readControl_ok h
  · exact ReadFrame.refl u
  · constructor <;> rfl

section Families

variable {s t : State} {i : Instr}

theorem completes_of_writeBack {r : Reg} {v : Word} (hj : i.isJumpOrBranch = false)
    (h : s.writeBack r v = .next t) : Completes s i t := by
  cases h
  exact .wentOn hj (.reg r v (.refl s))

theorem completes_of_writeChecked {b : Bool} {r : Reg} {v : Word} (hj : i.isJumpOrBranch = false)
    (h : s.writeChecked b r v = .next t) : Completes s i t := by
  obtain ⟨-, rfl⟩ | ⟨-, -, rfl⟩ := writeChecked_next h
  · exact .wentOn hj (.reg r v (.refl s))
  · exact .trapped .overflow hj

theorem completes_of_loadInto {ea : Word} {n : Nat} {rt : Reg} {ext : Word → Word} (hj : i.isJumpOrBranch = false)
    (h : s.loadInto ea n rt ext = .next t) : Completes s i t := by
  obtain ⟨-, ⟨v, u, hv, rfl⟩ | ⟨-, rfl⟩⟩ := loadInto_next h
  · exact .wentOn hj (.reg rt (ext v) (memRead_frame hv))
  · exact .trapped _ hj

theorem completes_of_loadWordOf {ea : Word} {rt : Reg} {f : Word → Word} (hj : i.isJumpOrBranch = false)
    (h : s.complete ((s.memReadWordOf ea).intoGpr rt f) = .next t) : Completes s i t := by
  obtain ⟨v, u, hv, rfl⟩ | ⟨-, rfl⟩ := loadWordOf_next h
  · exact .wentOn hj (.reg rt (f v) (memReadWordOf_frame hv))
  · exact .trapped _ hj

theorem completes_of_storeFrom {ea : Word} {n : Nat} {rt : Reg} (hj : i.isJumpOrBranch = false)
    (hi : i.isStore = true) (h : s.storeFrom ea n rt = .next t) : Completes s i t := by
  obtain ⟨-, ⟨p, u, -, hw, rfl⟩ | ⟨-, rfl⟩⟩ := storeFrom_next h
  · exact .wentOn hj (.store hi hw)
  · exact .trapped _ hj

/-- SWL and SWR: their cells too are bytes from one address up. -/
theorem completes_of_storeCells {ea : Word} {start : Word → Word} {bytes : Word → List Byte}
    (hj : i.isJumpOrBranch = false) (hi : i.isStore = true)
    (h : s.storeCells ea (fun pa => cellsFrom (start pa) (bytes pa)) = .next t) : Completes s i t := by
  obtain ⟨p, u, -, hw, rfl⟩ | ⟨-, rfl⟩ := storeCells_next h
  · exact .wentOn hj (.store hi hw)
  · exact .trapped _ hj

theorem completes_of_writeHiLo {hi lo : Word} (hj : i.isJumpOrBranch = false) (hw : WritesHiLo i)
    (h : s.writeHiLo hi lo = .next t) : Completes s i t := by
  cases h
  exact .wentOn hj (.hiLo hi lo s.draws hw)

theorem completes_of_writeDivCorner {op : DivOp} {n d : Word} (hj : i.isJumpOrBranch = false) (hw : WritesHiLo i)
    (h : s.writeDivCorner op n d = .next t) : Completes s i t := by
  cases h
  exact .wentOn hj (.hiLo _ _ (s.draws + 1) hw)

theorem completes_of_jump {target : Option Word} {link : Option (Reg × Word)} (hj : i.isJumpOrBranch = true)
    (h : s.jump target link = .next t) : Completes s i t := by
  obtain ⟨hd, ha, ⟨-, rfl⟩ | ⟨r, v, -, rfl⟩⟩ := jump_next h
  · exact .jumped 0#5 0#32 hj hd ha
  · exact .jumped r v hj hd ha

theorem completes_of_branch {taken : Bool} {imm : Imm16} {link : Option Reg} (hj : i.isJumpOrBranch = true)
    (h : s.branch taken imm link = .next t) : Completes s i t :=
  completes_of_jump hj h

theorem completes_of_mfc0 {rt rd : Reg} (h : execMfc0 rt rd s = .next t) : Completes s (.mfc0 rt rd) t := by
  obtain ⟨u, hu, rfl⟩ | ⟨e, he, -⟩ := complete_next h
  · obtain ⟨v, u', hv, rfl⟩ := intoGpr_ok hu
    exact .wentOn rfl (.reg rt v (readControl_frame hv))
  · exact absurd (intoGpr_raise he) (readControl_ne_raise _ _ _)

theorem completes_of_mtc0 {rt rd : Reg} (h : execMtc0 rt rd s = .next t) : Completes s (.mtc0 rt rd) t := by
  obtain ⟨u, hu, rfl⟩ | ⟨e, he, -⟩ := complete_next h
  · exact .wentOn rfl (.control hu)
  · exact absurd he (writeControl_ne_raise _ _ _ _)

theorem completes_of_div {rs rt : Reg} (h : execDiv rs rt s = .next t) : Completes s (.div rs rt) t := by
  have hw : WritesHiLo (.div rs rt) := ⟨rs, rt, by simp⟩
  unfold execDiv at h
  dsimp only at h
  split at h
  · exact completes_of_writeDivCorner rfl hw h
  · exact completes_of_writeHiLo rfl hw h

theorem completes_of_divu {rs rt : Reg} (h : execDivu rs rt s = .next t) : Completes s (.divu rs rt) t := by
  have hw : WritesHiLo (.divu rs rt) := ⟨rs, rt, by simp⟩
  unfold execDivu at h
  dsimp only at h
  split at h
  · exact completes_of_writeDivCorner rfl hw h
  · exact completes_of_writeHiLo rfl hw h

end Families

/-- Everything an instruction that does not stop can do. -/
theorem exec_next {s t : State} {i : Instr} (h : exec i s = .next t) : Completes s i t := by
  cases i with
  | lb | lbu | lh | lhu | lw => exact completes_of_loadInto rfl h
  | lwl | lwr => exact completes_of_loadWordOf rfl h
  | sb | sh | sw => exact completes_of_storeFrom rfl rfl h
  | swl rt =>
    exact completes_of_storeCells (start := wordOf)
      (bytes := fun pa => (bytesOf 4 (s.gpr rt)).drop (3 - byteInWord pa)) rfl rfl h
  | swr rt =>
    exact completes_of_storeCells (start := id)
      (bytes := fun pa => (bytesOf 4 (s.gpr rt)).take (4 - byteInWord pa)) rfl rfl h
  | addi | add | sub => exact completes_of_writeChecked rfl h
  | addiu | slti | sltiu | andi | ori | xori | lui => exact completes_of_writeBack rfl h
  | addu | subu | slt | sltu | and | or | xor | nor => exact completes_of_writeBack rfl h
  | sll | srl | sra | sllv | srlv | srav | mfhi | mflo => exact completes_of_writeBack rfl h
  | mult rs rt | multu rs rt => exact completes_of_writeHiLo rfl ⟨rs, rt, by simp⟩ h
  | mthi rs | mtlo rs => exact completes_of_writeHiLo rfl ⟨rs, 0#5, by simp⟩ h
  | div => exact completes_of_div h
  | divu => exact completes_of_divu h
  | j | jal | jr | jalr =>
    simp only [exec] at h
    exact completes_of_jump rfl h
  | beq | bne | blez | bgtz | bltz | bgez | bltzal | bgezal =>
    simp only [exec] at h
    exact completes_of_branch rfl h
  | syscall | brk => cases h; exact .trapped _ rfl
  | mfc0 => exact completes_of_mfc0 h
  | mtc0 => exact completes_of_mtc0 h
  | tlbr => cases h; exact .wentOn rfl .tlbr
  | tlbwi => cases h; exact .wentOn rfl .tlbwi
  | rfe => cases h; exact .wentOn rfl .rfe

/-! ### What the body of an instruction leaves unchanged -/

/-- No body touches npc or the registers that only trap entry writes (10 R32). -/
theorem Wrote.keeps {s u : State} {i : Instr} (h : Wrote s i u) :
    u.npc = s.npc ∧ u.epc = s.epc ∧ u.cause = s.cause ∧ u.badVaddr = s.badVaddr := by
  cases h with
  | reg r v hu => simp [hu.npc, hu.epc, hu.cause, hu.badVaddr]
  | hiLo => simp
  | store _ hw => obtain ⟨-, rfl⟩ | ⟨-, -, rfl⟩ := writePhys_ok hw <;> simp
  | control hw => obtain ⟨-, rfl⟩ | ⟨-, rfl⟩ | ⟨-, rfl⟩ | ⟨-, rfl⟩ := writeControl_ok hw <;> simp
  | tlbr | tlbwi | rfe => simp

/-- HI and LO change only in the six instructions that name them (10 R24). -/
theorem Wrote.hiLo_eq {s u : State} {i : Instr} (h : Wrote s i u) (hi : ¬WritesHiLo i) : SameHiLo s u := by
  unfold SameHiLo
  cases h with
  | reg r v hu => simp [hu.hi, hu.lo]
  | hiLo _ _ _ hw => exact absurd hw hi
  | store _ hw => obtain ⟨-, rfl⟩ | ⟨-, -, rfl⟩ := writePhys_ok hw <;> simp
  | control hw => obtain ⟨-, rfl⟩ | ⟨-, rfl⟩ | ⟨-, rfl⟩ | ⟨-, rfl⟩ := writeControl_ok hw <;> simp
  | tlbr | tlbwi | rfe => simp

/-- The TLB changes only in TLBWI (10 R42). -/
theorem Wrote.tlb_eq {s u : State} {i : Instr} (h : Wrote s i u) (hi : i ≠ .tlbwi) : u.tlb = s.tlb := by
  cases h with
  | reg r v hu => simp [hu.tlb]
  | hiLo => rfl
  | store _ hw => obtain ⟨-, rfl⟩ | ⟨-, -, rfl⟩ := writePhys_ok hw <;> simp
  | control hw => obtain ⟨-, rfl⟩ | ⟨-, rfl⟩ | ⟨-, rfl⟩ | ⟨-, rfl⟩ := writeControl_ok hw <;> rfl
  | tlbwi => exact absurd rfl hi
  | tlbr | rfe => rfl

/-- Index changes only in MTC0 to it (10 R34). -/
theorem Wrote.index_eq {s u : State} {i : Instr} (h : Wrote s i u) (hi : ∀ rt, i ≠ .mtc0 rt 0) :
    u.index = s.index := by
  cases h with
  | reg r v hu => simp [hu.index]
  | hiLo => rfl
  | store _ hw => obtain ⟨-, rfl⟩ | ⟨-, -, rfl⟩ := writePhys_ok hw <;> simp
  | @control rt rd _ hw =>
    obtain ⟨hrd, -⟩ | ⟨-, rfl⟩ | ⟨-, rfl⟩ | ⟨-, rfl⟩ := writeControl_ok hw
    · have hrd : rd = 0 := BitVec.eq_of_toNat_eq hrd
      exact absurd (congrArg (Instr.mtc0 rt) hrd) (hi rt)
    all_goals rfl
  | tlbr | tlbwi | rfe => rfl

/-- SR changes only in MTC0 to it and RFE, as far as bodies go (10 R38). -/
theorem Wrote.sr_eq {s u : State} {i : Instr} (h : Wrote s i u) (hi : ∀ rt, i ≠ .mtc0 rt 12) (hr : i ≠ .rfe) :
    u.sr = s.sr := by
  cases h with
  | reg r v hu => simp [hu.sr]
  | hiLo => rfl
  | store _ hw => obtain ⟨-, rfl⟩ | ⟨-, -, rfl⟩ := writePhys_ok hw <;> simp
  | @control rt rd _ hw =>
    obtain ⟨-, rfl⟩ | ⟨-, rfl⟩ | ⟨-, rfl⟩ | ⟨hrd, -⟩ := writeControl_ok hw
    case inr.inr.inr =>
      have hrd : rd = 12 := BitVec.eq_of_toNat_eq hrd
      exact absurd (congrArg (Instr.mtc0 rt) hrd) (hi rt)
    all_goals rfl
  | rfe => exact absurd rfl hr
  | tlbr | tlbwi => rfl

/-- A body that is done goes on in sequence. -/
theorem Wrote.wentOn {s u : State} {i : Instr} (h : Wrote s i u) : WentOn s u.advance := by
  obtain ⟨hnpc, -⟩ := h.keeps
  simp [WentOn, hnpc]

/-- An instruction that is no jump or branch goes on in sequence or takes an exception (10 R27). -/
theorem wentOn_or_tookTrap {s t : State} {i : Instr} (h : exec i s = .next t) (hi : i.isJumpOrBranch = false) :
    WentOn s t ∨ ∃ code badVaddr, TookTrap s code badVaddr t := by
  cases exec_next h with
  | wentOn _ hu => exact .inl hu.wentOn
  | trapped e _ => exact .inr ⟨_, _, trapEntry_tookTrap s e⟩
  | jumped _ _ hj => exact absurd hj (by simp [hi])

/-! ### The invariant is kept (10 R21, R25, R26, R28, R41) -/

section KeepsInv

variable {s t : State}

/-- The invariant speaks of these fields alone. -/
theorem Inv.congr (h : Inv s) (hregs : t.regs = s.regs) (hpc : t.pc = s.pc) (hnpc : t.npc = s.npc) (hds : t.ds = s.ds)
    (hepc : t.epc = s.epc) (hmem : t.mem = s.mem) (hstored : t.storedWords = s.storedWords)
    (huncached : t.uncachedWords = s.uncachedWords) : Inv t := by
  obtain ⟨hzero, hpcA, hnpcA, hepcA, hseq, hmemWf, hstoredWf, huncachedWf, hsub⟩ := h
  constructor <;> simpa only [hregs, hpc, hnpc, hds, hepc, hmem, hstored, huncached]

theorem Inv.readFrame (h : Inv s) (hf : ReadFrame s t) : Inv t :=
  h.congr hf.regs hf.pc hf.npc hf.ds hf.epc hf.mem hf.storedWords hf.uncachedWords

/-- A write to any register but register 0 misses its cell (10 R21). -/
theorem Inv.setGpr (h : Inv s) (r : Reg) (v : Word) : Inv (s.setGpr r v) := by
  unfold State.setGpr
  split
  · exact h
  · next hr =>
    have hn : r.toNat ≠ 0 := fun hz => hr (BitVec.eq_of_toNat_eq hz)
    exact { h with regZero := by simp [Vector.getElem_set_ne _ _ hn, h.regZero] }

theorem Inv.advance (h : Inv s) : Inv s.advance :=
  { h with
    pcAligned := h.npcAligned
    npcAligned := wordAligned_add_four h.npcAligned
    sequential := fun _ => rfl }

theorem Inv.advanceTo (h : Inv s) {target : Option Word} (ha : wordAligned (target.getD 0#32)) :
    Inv (s.advanceTo target) :=
  { h with
    pcAligned := h.npcAligned
    npcAligned := by
      cases target with
      | none => exact wordAligned_add_four h.npcAligned
      | some a => exact ha
    sequential := fun hds => by cases hds }

theorem Inv.trapEntry (h : Inv s) (e : Exc) : Inv (s.trapEntry e) :=
  { h with
    pcAligned := by simp [wordAligned_iff]
    npcAligned := by simp [wordAligned_iff]
    epcAligned := by
      rw [State.trapEntry_epc]
      split
      · exact wordAligned_sub_four h.pcAligned
      · exact h.pcAligned
    sequential := fun _ => rfl }

theorem WordSet.wf_nil : WordSet.wf [] := ⟨.nil, by simp⟩

theorem Inv.resetEvent (h : Inv s) : Inv s.resetEvent :=
  { h with
    pcAligned := by simp [wordAligned_iff]
    npcAligned := by simp [wordAligned_iff]
    sequential := fun _ => rfl
    storedWf := WordSet.wf_nil
    uncachedWf := WordSet.wf_nil
    uncachedStored := by simp }

theorem Inv.popPins (h : Inv s) : Inv s.popPins := h.congr rfl rfl rfl rfl rfl rfl rfl rfl

/-- W and U stay canonical, and U within W, whichever way the store goes (20 R98, R99). -/
theorem Inv.noteStore (h : Inv s) (p : PhysAddr) : Inv (s.noteStore p) := by
  have hlt : (wordOf p.pa).toNat < 2 ^ 32 := (wordOf p.pa).isLt
  have h4 : (wordOf p.pa).toNat % 4 = 0 := (wordAligned_iff _).mp (wordOf_aligned p.pa)
  refine { h with storedWf := WordSet.wf_add h.storedWf hlt h4, uncachedWf := ?_, uncachedStored := ?_ }
  · rw [State.noteStore_uncachedWords]
    split
    · exact WordSet.wf_erase h.uncachedWf _
    · exact WordSet.wf_add h.uncachedWf hlt h4
  · intro w hw
    rw [State.noteStore_storedWords, WordSet.mem_add]
    rw [State.noteStore_uncachedWords] at hw
    split at hw
    · exact .inr (h.uncachedStored w (WordSet.mem_erase.mp hw).1)
    · exact (WordSet.mem_add.mp hw).imp_right (h.uncachedStored w)

theorem Inv.writePhys (h : Inv s) {p : PhysAddr} {a : Word} {bytes : List Byte}
    (hw : s.writePhys p (cellsFrom a bytes) = .ok () t) : Inv t := by
  obtain ⟨-, rfl⟩ | ⟨-, -, rfl⟩ := writePhys_ok hw
  · exact { h.noteStore p with memWf := Memory.wf_writeCells h.memWf (cellsFrom_lt a bytes) }
  · exact (h.noteStore p).congr rfl rfl rfl rfl rfl rfl rfl rfl

theorem Inv.wrote (h : Inv s) {i : Instr} (hu : Wrote s i t) : Inv t := by
  cases hu with
  | reg r v hf => exact (h.readFrame hf).setGpr r v
  | store _ hw => exact h.writePhys hw
  | control hw =>
    obtain ⟨-, rfl⟩ | ⟨-, rfl⟩ | ⟨-, rfl⟩ | ⟨-, rfl⟩ := writeControl_ok hw <;>
      exact h.congr rfl rfl rfl rfl rfl rfl rfl rfl
  | hiLo | tlbr | tlbwi | rfe => exact h.congr rfl rfl rfl rfl rfl rfl rfl rfl

theorem Inv.of_exec (h : Inv s) {i : Instr} (he : exec i s = .next t) : Inv t := by
  cases exec_next he with
  | wentOn _ hu => exact (h.wrote hu).advance
  | trapped e _ => exact h.trapEntry e
  | jumped r v _ _ ha => exact (h.setGpr r v).advanceTo ha

end KeepsInv

/-- Settles O13: each event of a step keeps the invariant. -/
theorem stepKeepsTheInvariant : Obligations.StepKeepsTheInvariant := by
  intro s t h hs
  have hp : Inv s.popPins := h.popPins
  obtain ⟨-, rfl⟩ | ⟨-, -, -, rfl⟩ | ⟨-, -, ⟨-, rfl⟩ | ⟨w, u, i, hf, -, he⟩⟩ := step_next hs
  · exact hp.resetEvent
  · exact hp.trapEntry _
  · exact hp.trapEntry _
  · exact (hp.readFrame (fetch_frame hf)).of_exec he

/-- Settles O12: memory, W and U are empty, and every address is a literal. -/
theorem resetMeetsTheInvariant : Obligations.ResetMeetsTheInvariant where
  regZero := by decide
  pcAligned := by unfold wordAligned; decide
  npcAligned := by unfold wordAligned; decide
  epcAligned := by unfold wordAligned; decide
  sequential := by decide
  memWf := reset_mem_wf
  storedWf := WordSet.wf_nil
  uncachedWf := WordSet.wf_nil
  uncachedStored := by simp [State.reset]

/-! ### Jumps that stop, and delay slots -/

/-- Settles O31: the target is checked before any link is written. -/
theorem misalignedJumpStops : Obligations.MisalignedJumpStops :=
  fun _ _ _ hd ha => ⟨jump_misaligned none hd ha, jump_misaligned (some (_, _)) hd ha⟩

/-- Settles O34: in each case the model's test of the registers holds, so the branch is taken. -/
theorem misalignedBranchStops : Obligations.MisalignedBranchStops := by
  intro s rs rt imm i hd ha hi
  have stops {taken : Bool} (link : Option Reg) (ht : taken = true) :
      s.branch taken imm link = .fault .misalignedJumpTarget := branch_misaligned link ht hd ha
  obtain ⟨rfl, h⟩ | ⟨rfl, h⟩ | ⟨rfl, h⟩ | ⟨rfl, h⟩ | ⟨rfl | rfl, h⟩ | ⟨rfl | rfl, h⟩ := hi
  · exact stops none (beq_iff_eq.mpr h)
  · exact stops none (bne_iff_ne.mpr h)
  · exact stops none ((isNegative_or_zero_iff _).mpr h)
  · exact stops none ((not_isNegative_and_nonzero_iff _).mpr h)
  · exact stops none ((isNegative_iff _).mpr h)
  · exact stops (some 31#5) ((isNegative_iff _).mpr h)
  · exact stops none ((not_isNegative_iff _).mpr h)
  · exact stops (some 31#5) ((not_isNegative_iff _).mpr h)

/-- Settles O36: no jump completes in a delay slot, so the instruction there goes on to npc, the target, or traps. -/
theorem delaySlotThenTarget : Obligations.DelaySlotThenTarget := by
  refine ⟨fun s t i hi h => wentOn_or_tookTrap h hi, fun s t i hi h => ?_⟩
  cases exec_next h with
  | wentOn hj | trapped _ hj => exact absurd hj (by simp [hi])
  | @jumped target r v =>
    refine ⟨by simp, by simp, fun j u hu => ?_⟩
    cases hj : j.isJumpOrBranch with
    | false =>
      obtain ⟨hpc, -, hds⟩ | ⟨_, _, htrap⟩ := wentOn_or_tookTrap hu hj
      · exact .inl ⟨hpc, hds⟩
      · obtain ⟨-, -, -, -, -, -, -, hpc, -⟩ := htrap
        exact .inr hpc
    | true =>
      cases exec_next hu with
      | wentOn hj' | trapped _ hj' => exact absurd hj' (by simp [hj])
      | jumped _ _ _ hd => exact absurd hd (by simp)

/-! ### Control registers (10 R33, R34, 45 R246) -/

theorem indexWord_index (s : State) : s.indexWord.extractLsb' 8 6 = s.index := by
  unfold State.indexWord
  rw [extractLsb'_append_low (n := 1) (m := 31) _ _ 8 6 (by omega), extractLsb'_append_low _ _ 8 6 (by omega),
    extractLsb'_append_high _ _ 8 6 (by omega), extractLsb'_whole]

theorem indexWord_bit31 (s : State) : s.indexWord.getLsbD 31 = false := by
  unfold State.indexWord
  rw [BitVec.getLsbD_append]
  simp

/-- Settles O38: the word read is Index between its free bits, and the read takes one of the free values. -/
theorem readIndexResult : Obligations.ReadIndexResult := by
  intro s rt
  refine ⟨(State.setGpr { s with draws := s.draws + 1 } rt s.indexWord).advance, s.indexWord, rfl, ?_,
    indexWord_index s, indexWord_bit31 s, ?_⟩
  · exact fun q => State.gpr_setGpr { s with draws := s.draws + 1 } rt q s.indexWord
  · simp [WentOn, SameHiLo, SameControl, SameBytes, SameBlind, SameInputs]

theorem toNat_ne_of_not_controlRegister {rd : Reg} (h : rd ∉ controlRegisters) {n : Nat}
    (hn : BitVec.ofNat 5 n ∈ controlRegisters) : rd.toNat ≠ n := by
  rintro rfl
  exact h (by simpa using hn)

theorem readControl_unknown (s : State) {rd : Reg} (h : rd ∉ controlRegisters) :
    s.readControl rd = .stop .unknownControlRegister := by
  unfold State.readControl
  split
  case h_8 => rfl
  all_goals exact absurd ‹rd.toNat = _› (toNat_ne_of_not_controlRegister h (by decide))

theorem writeControl_unknown (s : State) {rd : Reg} (v : Word) (h : rd ∉ controlRegisters) :
    s.writeControl rd v = .stop .unknownControlRegister := by
  unfold State.writeControl
  split
  case h_8 => rfl
  all_goals exact absurd ‹rd.toNat = _› (toNat_ne_of_not_controlRegister h (by decide))

theorem writeControl_hardwareWritten (s : State) {rd : Reg} (v : Word) (h : rd ∈ ([9, 13, 14] : List Reg)) :
    s.writeControl rd v = .stop .mtc0ToHardwareWrittenRegister := by
  simp only [List.mem_cons, List.not_mem_nil, or_false] at h
  obtain rfl | rfl | rfl := h <;> rfl

/-- Settles O40: the control register number is looked up before anything is read or written. -/
theorem illFormedControlMoveStops : Obligations.IllFormedControlMoveStops := by
  intro s rt rd
  refine ⟨fun h => ⟨?_, ?_⟩, fun h => ?_⟩
  · simp [exec, execMfc0, readControl_unknown s h, Res.intoGpr, State.complete]
  · simp [exec, execMtc0, writeControl_unknown s _ h, State.complete]
  · simp [exec, execMtc0, writeControl_hardwareWritten s _ h, State.complete]

/-! ### Few writers (10 R24, R32, R34, R36, R38, R40, R41, R42) -/

/-- Settles O58: the body of an instruction obeys the rule, and neither trap entry nor a jump touches these. -/
theorem specialRegistersHaveFewWriters : Obligations.SpecialRegistersHaveFewWriters := by
  intro s t i h
  cases exec_next h with
  | wentOn _ hu =>
    refine ⟨fun hi => hu.hiLo_eq ?_, hu.tlb_eq, hu.index_eq⟩
    rintro ⟨rs, rt, hw⟩
    have hnone := hi rs rt
    tauto
  | trapped | jumped => simp

/-- Settles O60: where the body leaves SR alone, trap entry is the one way left. -/
theorem statusRegisterHasFewWriters : Obligations.StatusRegisterHasFewWriters := by
  intro s t i h hmtc0 hrfe
  cases exec_next h with
  | wentOn _ hu => exact .inl (hu.sr_eq hmtc0 hrfe)
  | trapped => exact .inr ⟨rfl, rfl⟩
  | jumped => exact .inl (by simp)

/-- Settles O59: of the events of a step only trap entry writes them, and it goes to the vector. -/
theorem hardwareWrittenRegistersNeedATrap : Obligations.HardwareWrittenRegistersNeedATrap := by
  intro s t hs
  obtain ⟨-, rfl⟩ | ⟨-, -, -, rfl⟩ | ⟨-, -, ⟨-, rfl⟩ | ⟨w, u, i, hf, -, he⟩⟩ := step_next hs
  · exact .inl ⟨rfl, rfl, rfl⟩
  · exact .inr (by simp)
  · exact .inr (by simp)
  · have hframe := fetch_frame hf
    have hepc : u.epc = s.epc := hframe.epc
    have hcause : u.cause = s.cause := hframe.cause
    have hbad : u.badVaddr = s.badVaddr := hframe.badVaddr
    have hsr : u.sr = s.sr := hframe.sr
    cases exec_next he with
    | wentOn _ hw =>
      obtain ⟨-, hepc', hcause', hbad'⟩ := hw.keeps
      exact .inl ⟨hepc'.trans hepc, hcause'.trans hcause, hbad'.trans hbad⟩
    | trapped e => exact .inr (by simp [hsr])
    | jumped => exact .inl (by simp [hepc, hcause, hbad])

/-! ### The step, register 0, reset, RFE -/

/-- A fetch from memory reads the word at pc and leaves the state as it was (20 R85). -/
theorem fetch_memory {s : State} {p : PhysAddr} (h : FetchesMemoryAt s p) : s.fetch = .ok (s.wordAt p.pa) s := by
  obtain ⟨hp, hkind, hblind⟩ := h
  rw [← littleEndian_bytesAt_four, ← readPhys_memory 4 .ifetchAfterStore hkind hblind]
  simp only [State.fetch, hp]

/-- Settles O5: using up the input levels leaves all that a fetch depends on. -/
theorem stepRunsTheDecodedInstruction : Obligations.StepRunsTheDecodedInstruction := by
  intro s p i hreset hirq hmemory hdecode
  have hfetch : s.popPins.fetch = .ok (s.wordAt p.pa) s.popPins := fetch_memory (s := s.popPins) hmemory
  calc step s
    _ = s.popPins.fetchAndRun := by simp [step, State.cycle, hreset, hirq]
    _ = s.popPins.runWord (s.wordAt p.pa) := by simp only [State.fetchAndRun, hfetch]
    _ = exec i s.popPins := by simp only [State.runWord, hdecode]

/-- Settles O10, by the laws of register 0. -/
theorem registerZeroIsHardwired : Obligations.RegisterZeroIsHardwired :=
  fun s v => ⟨s.gpr_zero, s.setGpr_zero v⟩

/-- Settles O11, field by field. -/
theorem resetStateHasTheSpecValues : Obligations.ResetStateHasTheSpecValues :=
  ⟨rfl, rfl, rfl, State.reset.gpr_zero, rfl, rfl, rfl⟩

/-- Settles O17: RFE's pop reads what trap entry's push moved to IEp and IEo. -/
theorem rfeUndoesTheTrapsPush : Obligations.RfeUndoesTheTrapsPush := by
  rintro s t code badVaddr ⟨-, -, -, hieo, hiep, -⟩
  exact ⟨t.returnFromException.advance, rfl, hiep, hieo⟩

end Sys2Proof.Machine
end

section
/-! SUPPORT. Proofs for 20_memory: addresses and their words, translation, where an access goes, stops and devices, and
which bytes a step can change. -/

namespace Sys2Proof.Machine

/-! ### An address and its word (20 R72, R74) -/

theorem byteInWord_eq (a : Word) : byteInWord a = a.toNat % 4 := by
  simp [byteInWord, BitVec.extractLsb'_toNat]

theorem byteInWord_lt (a : Word) : byteInWord a < 4 := (a.extractLsb' 0 2).isLt

theorem getLsbD_zero_eq_false_iff (a : Word) : a.getLsbD 0 = false ↔ a.toNat % 2 = 0 := by
  rw [BitVec.getLsbD, Nat.testBit_zero]
  simp

theorem misaligned_eq_false_iff (a : Word) (n : Nat) : misaligned a n = false ↔ a.toNat % 4 % n = 0 := by
  simp [misaligned, byteInWord_eq]

theorem misaligned_one (a : Word) : misaligned a 1 = false := by
  rw [misaligned_eq_false_iff, Nat.mod_one]

theorem misaligned_two_iff (a : Word) : misaligned a 2 = false ↔ a.getLsbD 0 = false := by
  rw [misaligned_eq_false_iff, getLsbD_zero_eq_false_iff]
  omega

theorem misaligned_four_iff (a : Word) : misaligned a 4 = false ↔ wordAligned a := by
  rw [misaligned_eq_false_iff, wordAligned_iff]
  omega

/-- The word of an address as a slice: all but the two low bits, which are zero. -/
theorem wordOf_eq_append (a : Word) : wordOf a = a.extractLsb' 2 30 ++ 0#2 := by
  unfold wordOf
  refine BitVec.eq_of_getLsbD_eq fun k hk => ?_
  have hmask : (0xFFFFFFFC#32).getLsbD k = decide (2 ≤ k) := by interval_cases k <;> rfl
  rw [BitVec.getLsbD_and, hmask, BitVec.getLsbD_append, BitVec.getLsbD_extractLsb']
  by_cases h : k < 2
  · simp [h, show ¬2 ≤ k by omega]
  · simp [h, show 2 ≤ k by omega, show k - 2 < 30 by omega, show 2 + (k - 2) = k by omega]

theorem wordOf_toNat (a : Word) : (wordOf a).toNat = a.toNat - a.toNat % 4 := by
  have ha : a.toNat < 2 ^ 32 := a.isLt
  rw [wordOf_eq_append, BitVec.toNat_append, BitVec.extractLsb'_toNat]
  simp only [Nat.shiftRight_eq_div_pow, BitVec.toNat_ofNat, Nat.zero_mod, Nat.or_zero, Nat.shiftLeft_eq]
  omega

/-- Addresses of one aligned word are those with one quotient by 4. -/
theorem wordOf_congr {a b : Word} (h : a.toNat / 4 = b.toNat / 4) : wordOf a = wordOf b := by
  refine BitVec.eq_of_toNat_eq ?_
  rw [wordOf_toNat, wordOf_toNat]
  omega

theorem wordOf_wordOf (a : Word) : wordOf (wordOf a) = wordOf a := by
  refine wordOf_congr ?_
  rw [wordOf_toNat]
  omega

/-- What stands at an address is a matter of its word (20 R91; log 4). -/
theorem kindAt_congr (c : Config) {a b : Word} (h : wordOf a = wordOf b) : kindAt c a = kindAt c b := by
  unfold kindAt
  rw [h]

/-! ### Translation (20 R75 to R80) -/

theorem isUnmapped_iff (la : Word) : isUnmapped la = true ↔ la.extractLsb' 30 2 = 0b10#2 := by
  simp [isUnmapped]

/-- kseg0 and kseg1 as a range of addresses (20 R75). -/
theorem isUnmapped_iff_range (la : Word) : isUnmapped la = true ↔ 0x80000000 ≤ la.toNat ∧ la.toNat < 0xC0000000 := by
  have hla : la.toNat < 2 ^ 32 := la.isLt
  rw [isUnmapped_iff, ← BitVec.toNat_inj, BitVec.extractLsb'_toNat]
  simp only [Nat.shiftRight_eq_div_pow, BitVec.toNat_ofNat]
  omega

theorem unmappedAddr_toNat (la : Word) : (unmappedAddr la).pa.toNat = la.toNat % 2 ^ 29 := by
  calc (unmappedAddr la).pa.toNat
    _ = (0#3 ++ la.extractLsb' 0 29).toNat := rfl
    _ = la.toNat % 2 ^ 29 := by rw [BitVec.toNat_append]; simp [BitVec.extractLsb'_toNat]

/-- Bit 29 tells kseg1 from kseg0 (20 R75, R80). -/
theorem unmappedAddr_cached_iff {la : Word} (h : isUnmapped la = true) :
    (unmappedAddr la).cached = true ↔ la.toNat < 0xA0000000 := by
  have hrange := (isUnmapped_iff_range la).mp h
  have hbit : la.getLsbD 29 = decide (la.toNat / 2 ^ 29 % 2 = 1) := by
    rw [BitVec.getLsbD, Nat.testBit_eq_decide_div_mod_eq]
  simp only [unmappedAddr, hbit, Bool.not_eq_true', decide_eq_false_iff_not]
  omega

theorem pageAddr_toNat (pfn : Page) (la : Word) :
    (pfn ++ la.extractLsb' 0 12).toNat = pfn.toNat * 2 ^ 12 + la.toNat % 2 ^ 12 := by
  rw [BitVec.toNat_append, ← Nat.shiftLeft_add_eq_or_of_lt (BitVec.isLt _), BitVec.extractLsb'_toNat,
    Nat.shiftLeft_eq, Nat.shiftRight_zero]

/-- A segment without the TLB translates the same way in every state (20 R76). -/
theorem translate_unmapped (s : State) {la : Word} (h : isUnmapped la = true) :
    s.translate la = some (unmappedAddr la) := by
  simp [State.translate, h]

/-- A mapped address translates by the entry it selects, if that is valid and holds its page (20 R80). -/
theorem translate_mapped (s : State) {la : Word} (h : isUnmapped la = false) :
    s.translate la =
      if (s.tlbEntryFor la).v = true ∧ (s.tlbEntryFor la).vpn = la.extractLsb' 12 20 then
        some ⟨(s.tlbEntryFor la).pfn ++ la.extractLsb' 0 12, true⟩
      else none := by
  simp [State.translate, h]

/-- The two ways an address can translate. -/
theorem translate_some {s : State} {la : Word} {p : PhysAddr} (h : s.translate la = some p) :
    (isUnmapped la = true ∧ p = unmappedAddr la) ∨
      (isUnmapped la = false ∧ (s.tlbEntryFor la).v = true ∧ (s.tlbEntryFor la).vpn = la.extractLsb' 12 20 ∧
        p = ⟨(s.tlbEntryFor la).pfn ++ la.extractLsb' 0 12, true⟩) := by
  cases hu : isUnmapped la with
  | true =>
    rw [translate_unmapped s hu] at h
    cases h
    exact .inl ⟨rfl, rfl⟩
  | false =>
    rw [translate_mapped s hu] at h
    split at h
    · next he => cases h; exact .inr ⟨rfl, he.1, he.2, rfl⟩
    · cases h

/-- Translation keeps the byte's place in its word (20 R80: pages are whole words). -/
theorem translate_mod_four {s : State} {la : Word} {p : PhysAddr} (h : s.translate la = some p) :
    p.pa.toNat % 4 = la.toNat % 4 := by
  obtain ⟨-, rfl⟩ | ⟨-, -, -, rfl⟩ := translate_some h
  · rw [unmappedAddr_toNat]
    omega
  · simp only [pageAddr_toNat]
    omega

/-- The entry a mapped address selects, by its number (20 R80 step 1). -/
theorem tlbEntryFor_eq (s : State) (la : Word) :
    s.tlbEntryFor la = s.tlb[la.toNat / 2 ^ 12 % 64]'(Nat.mod_lt _ (by decide)) := by
  have hindex : (la.extractLsb' 12 6).toNat = la.toNat / 2 ^ 12 % 64 := by
    rw [BitVec.extractLsb'_toNat, Nat.shiftRight_eq_div_pow]
  simp only [State.tlbEntryFor, hindex]

/-- Settles O43: kseg0 and kseg1 are the unmapped range; elsewhere the selected entry decides. -/
theorem addressTranslation : Obligations.AddressTranslation := by
  refine ⟨fun s la hlo hhi => ?_, fun s la p hla => ?_⟩
  · have hu : isUnmapped la = true := (isUnmapped_iff_range la).mpr ⟨hlo, hhi⟩
    exact ⟨unmappedAddr la, translate_unmapped s hu, unmappedAddr_toNat la, unmappedAddr_cached_iff hu⟩
  · have hu : isUnmapped la = false := by
      rw [← Bool.not_eq_true, isUnmapped_iff_range]
      omega
    have hpage : (la.extractLsb' 12 20).toNat = la.toNat / 2 ^ 12 := by
      have hlt : la.toNat < 2 ^ 32 := la.isLt
      rw [BitVec.extractLsb'_toNat, Nat.shiftRight_eq_div_pow]
      omega
    rw [← tlbEntryFor_eq]
    constructor
    · intro h
      obtain ⟨hu', -⟩ | ⟨-, hv, hvpn, rfl⟩ := translate_some h
      · exact absurd hu' (by simp [hu])
      · exact ⟨_, rfl, hv, by rw [hvpn, hpage], pageAddr_toNat _ la, rfl⟩
    · rintro ⟨e, rfl, hv, hvpn, hpa, hc⟩
      have hvpn : (s.tlbEntryFor la).vpn = la.extractLsb' 12 20 := BitVec.eq_of_toNat_eq (by rw [hvpn, hpage])
      have hpa : p.pa = (s.tlbEntryFor la).pfn ++ la.extractLsb' 0 12 :=
        BitVec.eq_of_toNat_eq (by rw [hpa, pageAddr_toNat])
      rw [translate_mapped s hu, if_pos ⟨hv, hvpn⟩, ← hpa, ← hc]

/-- After TLBWI the slot Index names holds EntryHi and EntryLo, every other slot what it held (45 R250). -/
theorem tlbWrite_tlbEntryFor (s : State) (la : Word) :
    s.tlbWrite.tlbEntryFor la =
      if la.extractLsb' 12 6 = s.index then ⟨s.entryHi, s.entryLo.pfn, s.entryLo.v⟩ else s.tlbEntryFor la := by
  unfold State.tlbEntryFor
  simp only [State.tlbWrite_tlb, Vector.getElem_set, BitVec.toNat_inj, eq_comm (a := s.index)]

/-- Settles O42: the two cases of `translate`, and the slot `tlbWrite` writes. -/
theorem tlbWriteThenTranslate : Obligations.TlbWriteThenTranslate := by
  intro s t la h
  obtain rfl : s.tlbWrite.advance = t := by cases h; rfl
  rw [State.advance_translate, ← isUnmapped_iff, ne_eq, ne_eq, ← isUnmapped_iff, Bool.not_eq_true]
  refine ⟨fun hla => ?_, fun hu hslot => ?_⟩
  · cases hu : isUnmapped la with
    | true => rw [translate_unmapped _ hu, translate_unmapped _ hu]
    | false =>
      have hslot : la.extractLsb' 12 6 ≠ s.index := hla.resolve_left (by simp [hu])
      rw [translate_mapped _ hu, translate_mapped _ hu, tlbWrite_tlbEntryFor, if_neg hslot]
  · rw [translate_mapped _ hu, tlbWrite_tlbEntryFor, if_pos hslot]

/-! ### Physical accesses: the cases (20 R91, R92, R98, R99) -/

theorem readPhys_unpopulated {s : State} {p : PhysAddr} (n : Nat) (blind : WordSet) (f : Fault)
    (hk : kindAt s.cfg p.pa = none) : s.readPhys p n blind f = .stop .unpopulatedPhysicalAddress := by
  simp [State.readPhys, hk]

theorem readPhys_cachedIo {s : State} {p : PhysAddr} (n : Nat) (blind : WordSet) (f : Fault)
    (hk : kindAt s.cfg p.pa = some .io) (hc : p.cached = true) :
    s.readPhys p n blind f = .stop .cachedIoAccess := by
  simp [State.readPhys, hk, hc]

theorem readPhys_blind {s : State} {p : PhysAddr} (n : Nat) {blind : WordSet} (f : Fault)
    (hk : kindAt s.cfg p.pa = some .ram ∨ kindAt s.cfg p.pa = some .rom) (hs : s.cfg.strictCache = true)
    (hc : p.cached = true) (hb : blind.has (wordOf p.pa).toNat = true) : s.readPhys p n blind f = .stop f := by
  rcases hk with hk | hk <;> simp [State.readPhys, hk, hs, hc, hb]

/-- The state after one read of a device: the access recorded, one free value taken (log 9, log 10). -/
def State.afterDeviceRead (s : State) (p : PhysAddr) (n : Nat) : State :=
  { s with draws := s.draws + 1, io := .read p.pa.toNat n :: s.io }

theorem readPhys_io {s : State} {p : PhysAddr} (n : Nat) (blind : WordSet) (f : Fault)
    (hk : kindAt s.cfg p.pa = some .io) (hc : p.cached = false) :
    s.readPhys p n blind f = .ok (littleEndian (bytesOf n (Config.ioAnswer s.draws))) (s.afterDeviceRead p n) := by
  simp [State.readPhys, State.afterDeviceRead, hk, hc]

theorem writePhys_unpopulated {s : State} {p : PhysAddr} (cells : List Host.Cell) (hk : kindAt s.cfg p.pa = none) :
    s.writePhys p cells = .stop .unpopulatedPhysicalAddress := by
  simp [State.writePhys, hk]

theorem writePhys_rom {s : State} {p : PhysAddr} (cells : List Host.Cell) (hk : kindAt s.cfg p.pa = some .rom) :
    s.writePhys p cells = .stop .storeToRom := by
  simp [State.writePhys, hk]

theorem writePhys_cachedIo {s : State} {p : PhysAddr} (cells : List Host.Cell)
    (hk : kindAt s.cfg p.pa = some .io) (hc : p.cached = true) : s.writePhys p cells = .stop .cachedIoAccess := by
  simp [State.writePhys, hk, hc]

theorem writePhys_io {s : State} {p : PhysAddr} (cells : List Host.Cell)
    (hk : kindAt s.cfg p.pa = some .io) (hc : p.cached = false) :
    s.writePhys p cells = .ok () { s.noteStore p with io := .write cells :: s.io } := by
  simp [State.writePhys, hk, hc]

/-! ### Loads and stores as one physical access (40 R160) -/

theorem loadInto_misaligned {s : State} {ea : Word} {n : Nat} (rt : Reg) (ext : Word → Word)
    (h : misaligned ea n = true) : s.loadInto ea n rt ext = .fault .misalignedDataAccess := by
  simp [State.loadInto, h]

theorem storeFrom_misaligned {s : State} {ea : Word} {n : Nat} (rt : Reg) (h : misaligned ea n = true) :
    s.storeFrom ea n rt = .fault .misalignedDataAccess := by
  simp [State.storeFrom, h]

section Translated

variable {s : State} {ea : Word} {p : PhysAddr}

theorem loadInto_translated (hp : s.translate ea = some p) {n : Nat} (ha : misaligned ea n = false) (rt : Reg)
    (ext : Word → Word) :
    s.loadInto ea n rt ext =
      s.complete ((s.readPhys p n s.uncachedWords .cachedLoadAfterUncachedStore).intoGpr rt ext) := by
  simp [State.loadInto, State.memRead, ha, hp]

/-- LWL and LWR read the whole word of the translated address (log 24). -/
theorem memReadWordOf_translated (hp : s.translate ea = some p) :
    s.memReadWordOf ea =
      s.readPhys ⟨wordOf p.pa, p.cached⟩ 4 s.uncachedWords .cachedLoadAfterUncachedStore := by
  simp [State.memReadWordOf, hp]

theorem storeFrom_translated (hp : s.translate ea = some p) {n : Nat} (ha : misaligned ea n = false) (rt : Reg) :
    s.storeFrom ea n rt = s.complete (s.writePhys p (cellsFrom p.pa (bytesOf n (s.gpr rt)))) := by
  simp [State.storeFrom, State.memWrite, ha, hp]

theorem storeCells_translated (hp : s.translate ea = some p) (cells : Word → List Host.Cell) :
    s.storeCells ea cells = s.complete (s.writePhys p (cells p.pa)) := by
  simp [State.storeCells, hp]

end Translated

/-- Settles O50: the alignment check stands before everything else. -/
theorem misalignedAccessStops : Obligations.MisalignedAccessStops := by
  intro s rt rs imm
  refine ⟨fun h => ?_, fun h => ?_⟩
  · have ha : misaligned (s.effectiveAddress rs imm) 2 = true := by
      rw [← Bool.not_eq_false, misaligned_two_iff, h]
      decide
    simp only [List.forall_mem_cons, List.not_mem_nil, false_imp_iff, implies_true, and_true]
    exact ⟨loadInto_misaligned rt sextHalf ha, loadInto_misaligned rt id ha, storeFrom_misaligned rt ha⟩
  · have ha : misaligned (s.effectiveAddress rs imm) 4 = true := by
      rwa [← Bool.not_eq_false, misaligned_four_iff]
    simp only [List.forall_mem_cons, List.not_mem_nil, false_imp_iff, implies_true, and_true]
    exact ⟨loadInto_misaligned rt id ha, storeFrom_misaligned rt ha⟩

/-! ### Accesses that stop (20 R91, R92, R98, R99) -/

/-- In s the instruction is one read of the word of p, and a write of what it makes of that to a register. -/
def ReadsWordOf (s : State) (p : PhysAddr) (i : Instr) : Prop :=
  ∃ (q : PhysAddr) (n : Nat) (rt : Reg) (f : Word → Word), wordOf q.pa = wordOf p.pa ∧ q.cached = p.cached ∧
    exec i s = s.complete ((s.readPhys q n s.uncachedWords .cachedLoadAfterUncachedStore).intoGpr rt f)

/-- In s the instruction is one write at p. -/
def WritesAt (s : State) (p : PhysAddr) (i : Instr) : Prop :=
  ∃ cells, exec i s = s.complete (s.writePhys p cells)

section Stops

variable {s : State} {p : PhysAddr} {i : Instr}

theorem readsWordOf_of_loadInto {ea : Word} {n : Nat} {rt : Reg} {ext : Word → Word}
    (hi : exec i s = s.loadInto ea n rt ext) (hp : s.translate ea = some p) (ha : misaligned ea n = false) :
    ReadsWordOf s p i :=
  ⟨p, n, rt, ext, rfl, rfl, hi.trans (loadInto_translated hp ha rt ext)⟩

theorem readsWordOf_of_memReadWordOf {ea : Word} {rt : Reg} {f : Word → Word}
    (hi : exec i s = s.complete ((s.memReadWordOf ea).intoGpr rt f)) (hp : s.translate ea = some p) :
    ReadsWordOf s p i :=
  ⟨⟨wordOf p.pa, p.cached⟩, 4, rt, f, wordOf_wordOf p.pa, rfl, by rw [hi, memReadWordOf_translated hp]⟩

theorem writesAt_of_storeFrom {ea : Word} {n : Nat} {rt : Reg} (hi : exec i s = s.storeFrom ea n rt)
    (hp : s.translate ea = some p) (ha : misaligned ea n = false) : WritesAt s p i :=
  ⟨_, hi.trans (storeFrom_translated hp ha rt)⟩

theorem writesAt_of_storeCells {ea : Word} {cells : Word → List Host.Cell} (hi : exec i s = s.storeCells ea cells)
    (hp : s.translate ea = some p) : WritesAt s p i :=
  ⟨_, hi.trans (storeCells_translated hp cells)⟩

theorem ReadsWordOf.unpopulated (h : ReadsWordOf s p i) (hk : kindAt s.cfg p.pa = none) :
    exec i s = .fault .unpopulatedPhysicalAddress := by
  obtain ⟨q, n, rt, f, hq, -, hi⟩ := h
  rw [hi, readPhys_unpopulated n _ _ ((kindAt_congr s.cfg hq).trans hk)]
  rfl

theorem ReadsWordOf.cachedIo (h : ReadsWordOf s p i) (hk : kindAt s.cfg p.pa = some .io) (hc : p.cached = true) :
    exec i s = .fault .cachedIoAccess := by
  obtain ⟨q, n, rt, f, hq, hqc, hi⟩ := h
  rw [hi, readPhys_cachedIo n _ _ ((kindAt_congr s.cfg hq).trans hk) (hqc.trans hc)]
  rfl

theorem ReadsWordOf.blind (h : ReadsWordOf s p i)
    (hk : kindAt s.cfg p.pa = some .ram ∨ kindAt s.cfg p.pa = some .rom) (hs : s.cfg.strictCache = true)
    (hc : p.cached = true) (hb : s.uncachedWords.has (wordOf p.pa).toNat = true) :
    exec i s = .fault .cachedLoadAfterUncachedStore := by
  obtain ⟨q, n, rt, f, hq, hqc, hi⟩ := h
  rw [← hq] at hb
  rw [← kindAt_congr s.cfg hq] at hk
  rw [hi, readPhys_blind n _ hk hs (hqc.trans hc) hb]
  rfl

theorem WritesAt.unpopulated (h : WritesAt s p i) (hk : kindAt s.cfg p.pa = none) :
    exec i s = .fault .unpopulatedPhysicalAddress := by
  obtain ⟨cells, hi⟩ := h
  rw [hi, writePhys_unpopulated cells hk]
  rfl

theorem WritesAt.rom (h : WritesAt s p i) (hk : kindAt s.cfg p.pa = some .rom) : exec i s = .fault .storeToRom := by
  obtain ⟨cells, hi⟩ := h
  rw [hi, writePhys_rom cells hk]
  rfl

theorem WritesAt.cachedIo (h : WritesAt s p i) (hk : kindAt s.cfg p.pa = some .io) (hc : p.cached = true) :
    exec i s = .fault .cachedIoAccess := by
  obtain ⟨cells, hi⟩ := h
  rw [hi, writePhys_cachedIo cells hk hc]
  rfl

/-- A fetch that stops, stops the step. -/
theorem step_of_fetch_stop {f : Fault} (hreset : s.pinsNow.reset = false)
    (hirq : (s.pinsNow.irq && s.sr.iec) = false) (hp : s.translate s.pc = some p)
    (hf : s.popPins.readPhys p 4 s.storedWords .ifetchAfterStore = .stop f) : step s = .fault f := by
  have hfetch : s.popPins.fetch = .stop f := by
    simp only [State.fetch, State.popPins_translate, State.popPins_pc, hp]
    exact hf
  calc step s
    _ = s.popPins.fetchAndRun := by simp [step, State.cycle, hreset, hirq]
    _ = .fault f := by simp only [State.fetchAndRun, hfetch]

end Stops

/-- Settles O51: each load listed is one read and each store one write, and the kind of the address decides it. -/
theorem physicalAccessStops : Obligations.PhysicalAccessStops := by
  refine ⟨fun s rt rs imm p loads stores hp hshape => ?_, fun s p hreset hirq hp => ⟨fun hk => ?_, fun hk hc => ?_⟩⟩
  · have haccess : (∀ i ∈ loads, ReadsWordOf s p i) ∧ ∀ i ∈ stores, WritesAt s p i := by
      obtain ⟨rfl, rfl⟩ | ⟨ha, rfl, rfl⟩ | ⟨ha, rfl, rfl⟩ := hshape <;>
        simp only [List.forall_mem_cons, List.not_mem_nil, false_imp_iff, implies_true, and_true]
      · have ha := misaligned_one (s.effectiveAddress rs imm)
        exact ⟨⟨readsWordOf_of_loadInto rfl hp ha, readsWordOf_of_loadInto rfl hp ha,
          readsWordOf_of_memReadWordOf rfl hp, readsWordOf_of_memReadWordOf rfl hp⟩,
          writesAt_of_storeFrom rfl hp ha, writesAt_of_storeCells (cells := (leftCells · (s.gpr rt))) rfl hp,
          writesAt_of_storeCells (cells := (rightCells · (s.gpr rt))) rfl hp⟩
      · have ha := (misaligned_two_iff _).mpr ha
        exact ⟨⟨readsWordOf_of_loadInto rfl hp ha, readsWordOf_of_loadInto rfl hp ha⟩,
          writesAt_of_storeFrom rfl hp ha⟩
      · have ha := (misaligned_four_iff _).mpr ha
        exact ⟨readsWordOf_of_loadInto rfl hp ha, writesAt_of_storeFrom rfl hp ha⟩
    obtain ⟨hloads, hstores⟩ := haccess
    simp only [List.forall_mem_append]
    exact ⟨fun hk => ⟨fun i hi => (hloads i hi).unpopulated hk, fun i hi => (hstores i hi).unpopulated hk⟩,
      fun hk hc => ⟨fun i hi => (hloads i hi).cachedIo hk hc, fun i hi => (hstores i hi).cachedIo hk hc⟩,
      fun hk i hi => (hstores i hi).rom hk, fun hk hs hc hb i hi => (hloads i hi).blind hk hs hc hb⟩
  · exact step_of_fetch_stop hreset hirq hp (readPhys_unpopulated 4 _ _ hk)
  · exact step_of_fetch_stop hreset hirq hp (readPhys_cachedIo 4 _ _ hk hc)

/-- Settles O52: W is the set of words the fetch is blind to. -/
theorem cachedFetchAfterStoreStops : Obligations.CachedFetchAfterStoreStops :=
  fun _ _ hreset hirq hp hc hk hs hb => step_of_fetch_stop hreset hirq hp (readPhys_blind 4 _ hk hs hc hb)

/-! ### Bytes and words (20 R72, R87) -/

theorem getLsbD_byteOf (v : Word) (k j : Nat) : (byteOf v k).getLsbD j = (decide (j < 8) && v.getLsbD (8 * k + j)) := by
  rw [byteOf, BitVec.getLsbD_extractLsb']

/-- Bit k of a list of bytes read little endian is a bit of byte k / 8. -/
theorem getLsbD_littleEndian_range (n : Nat) (f : Nat → Byte) {k : Nat} (hk : k < 32) :
    (littleEndian ((List.range n).map f)).getLsbD k = (decide (k < 8 * n) && (f (k / 8)).getLsbD (k % 8)) := by
  induction n generalizing f k with
  | zero => simp [littleEndian]
  | succ n ih =>
    rw [List.range_succ_eq_map, List.map_cons, List.map_map, getLsbD_littleEndian_cons _ _ hk]
    split
    · next h8 => simp [Nat.div_eq_of_lt h8, Nat.mod_eq_of_lt h8, show k < 8 * (n + 1) by omega]
    · next h8 =>
      rw [ih _ (by omega)]
      simp [show (k - 8) / 8 + 1 = k / 8 by omega, show (k - 8) % 8 = k % 8 by omega,
        show k - 8 < 8 * n ↔ k < 8 * (n + 1) by omega]

/-- The low n bytes of a word, read little endian, are its low 8 n bits. -/
theorem littleEndian_bytesOf (n : Nat) (v : Word) :
    littleEndian (bytesOf n v) = (v.extractLsb' 0 (8 * n)).setWidth 32 := by
  refine BitVec.eq_of_getLsbD_eq fun k hk => ?_
  rw [bytesOf, getLsbD_littleEndian_range n _ hk, getLsbD_byteOf, BitVec.getLsbD_setWidth, BitVec.getLsbD_extractLsb']
  simp [hk, Nat.mod_lt k (show 0 < 8 by decide), show 8 * (k / 8) + k % 8 = k by omega]

theorem littleEndian_bytesOf_four (v : Word) : littleEndian (bytesOf 4 v) = v := by
  rw [littleEndian_bytesOf, extractLsb'_whole, BitVec.setWidth_eq]

theorem sextByte_bytesOf (v : Word) : sextByte (littleEndian (bytesOf 1 v)) = (v.extractLsb' 0 8).signExtend 32 := by
  rw [littleEndian_bytesOf, sextByte, BitVec.setWidth_setWidth_of_le _ (by decide), BitVec.setWidth_eq]

theorem sextHalf_bytesOf (v : Word) : sextHalf (littleEndian (bytesOf 2 v)) = (v.extractLsb' 0 16).signExtend 32 := by
  rw [littleEndian_bytesOf, sextHalf, BitVec.setWidth_setWidth_of_le _ (by decide), BitVec.setWidth_eq]

/-- LWL keeps the low bits of the register and puts the word's low bits above them (40 R170). -/
theorem getLsbD_mergeLeft {b k : Nat} (hb : b < 4) (hk : k < 32) (r w : Word) :
    (mergeLeft b r w).getLsbD k = if k < 8 * (3 - b) then r.getLsbD k else w.getLsbD (k - 8 * (3 - b)) := by
  have hmask : (1#32 <<< (8 * (3 - b))) - 1#32 = BitVec.ofNat 32 (2 ^ (8 * (3 - b)) - 1) := by
    interval_cases b <;> rfl
  rw [mergeLeft, hmask, BitVec.getLsbD_or, BitVec.getLsbD_shiftLeft, BitVec.getLsbD_and, BitVec.getLsbD_ofNat,
    Nat.testBit_two_pow_sub_one]
  by_cases h : k < 8 * (3 - b) <;> simp [hk, h]

/-- LWR keeps the high bits of the register and puts the word's high bits below them (40 R171). -/
theorem getLsbD_mergeRight {b k : Nat} (hk : k < 32) (r w : Word) :
    (mergeRight b r w).getLsbD k = if 8 * b + k < 32 then w.getLsbD (8 * b + k) else r.getLsbD k := by
  have hones : 0xFFFFFFFF#32 = BitVec.allOnes 32 := rfl
  rw [mergeRight, hones, BitVec.getLsbD_or, BitVec.getLsbD_and, BitVec.getLsbD_not, BitVec.getLsbD_ushiftRight,
    BitVec.getLsbD_ushiftRight, BitVec.getLsbD_allOnes]
  by_cases h : 8 * b + k < 32
  · simp [hk, h]
  · simp [hk, h, BitVec.getLsbD_of_ge w _ (Nat.le_of_not_lt h)]

/-- The formula of LWL makes the table of 40 R170. -/
theorem mergeLeft_eq_leftMerged {b : Nat} (hb : b < 4) (r w : Word) : mergeLeft b r w = leftMerged b w r := by
  refine BitVec.eq_of_getLsbD_eq fun k hk => ?_
  rw [getLsbD_mergeLeft hb hk]
  interval_cases b <;> simp only [leftMerged] <;> grind

/-- The formula of LWR makes the table of 40 R171. -/
theorem mergeRight_eq_rightMerged {b : Nat} (hb : b < 4) (r w : Word) : mergeRight b r w = rightMerged b w r := by
  refine BitVec.eq_of_getLsbD_eq fun k hk => ?_
  rw [getLsbD_mergeRight hk]
  interval_cases b <;> simp only [rightMerged] <;> grind

/-! ### Cells of a store (20 R87) -/

/-- Bytes from an address up lie at that address and those above it. -/
theorem cellsFrom_range (pa : Word) (n : Nat) (f : Nat → Byte) :
    cellsFrom pa ((List.range n).map f) = (List.range n).map fun k => ((pa + BitVec.ofNat 32 k).toNat, f k) := by
  induction n generalizing pa f with
  | zero => rfl
  | succ n ih =>
    have hnext (k : Nat) : pa + 1#32 + BitVec.ofNat 32 k = pa + BitVec.ofNat 32 (k + 1) := by
      rw [BitVec.add_assoc, Nat.add_comm k 1, BitVec.ofNat_add]
    rw [List.range_succ_eq_map, List.map_cons, cellsFrom, List.map_map, ih, List.map_cons, List.map_map]
    simp [hnext, Function.comp_def]

/-- Addresses within one aligned word do not wrap around. -/
theorem toNat_add_within {pa : Word} {n k : Nat} (h : pa.toNat % 4 + n ≤ 4) (hk : k < n) :
    (pa + BitVec.ofNat 32 k).toNat = pa.toNat + k := by
  have hpa : pa.toNat < 2 ^ 32 := pa.isLt
  rw [BitVec.toNat_add, BitVec.toNat_ofNat]
  omega

theorem cellsFrom_range_within {pa : Word} {n : Nat} (f : Nat → Byte) (h : pa.toNat % 4 + n ≤ 4) :
    cellsFrom pa ((List.range n).map f) = (List.range n).map fun k => (pa.toNat + k, f k) := by
  rw [cellsFrom_range]
  exact List.map_congr_left fun k hk => by rw [toNat_add_within h (List.mem_range.mp hk)]

theorem mem_cellsFrom_range {pa : Word} {n : Nat} {f : Nat → Byte} {c : Host.Cell}
    (hc : c ∈ cellsFrom pa ((List.range n).map f)) (h : pa.toNat % 4 + n ≤ 4) : c.1 / 4 = pa.toNat / 4 := by
  rw [cellsFrom_range_within f h, List.mem_map] at hc
  obtain ⟨k, hk, rfl⟩ := hc
  have hk : k < n := List.mem_range.mp hk
  show (pa.toNat + k) / 4 = pa.toNat / 4
  omega

/-- An aligned store stays in its word. -/
theorem bytesOf_cells_fit {a : Word} {n : Nat} (hn : n = 1 ∨ n = 2 ∨ n = 4) (ha : a.toNat % 4 % n = 0) :
    a.toNat % 4 + n ≤ 4 := by
  obtain rfl | rfl | rfl := hn <;> omega

/-- SWL's cells: the top bytes, from the start of the word up (40 R172). -/
theorem leftCells_eq (pa v : Word) :
    leftCells pa v =
      cellsFrom (wordOf pa) ((List.range (byteInWord pa + 1)).map fun k => byteOf v (3 - byteInWord pa + k)) := by
  unfold leftCells
  have hb := byteInWord_lt pa
  generalize byteInWord pa = b at hb
  interval_cases b <;> rfl

/-- SWR's cells: the low bytes, from the addressed byte up (40 R173). -/
theorem rightCells_eq (pa v : Word) : rightCells pa v = cellsFrom pa (bytesOf (4 - byteInWord pa) v) := by
  unfold rightCells
  have hb := byteInWord_lt pa
  generalize byteInWord pa = b at hb
  interval_cases b <;> rfl

theorem leftCells_fit (pa : Word) : (wordOf pa).toNat % 4 + (byteInWord pa + 1) ≤ 4 := by
  have hb := byteInWord_lt pa
  rw [wordOf_toNat]
  omega

theorem rightCells_fit (pa : Word) : pa.toNat % 4 + (4 - byteInWord pa) ≤ 4 := by
  rw [byteInWord_eq]
  omega

/-- Reading back a cell of a store whose cells have distinct addresses. -/
theorem read_writeCells_of_mem (m : Memory) {cs : List Host.Cell} (hcs : (cs.map Prod.fst).Nodup) {c : Host.Cell}
    (hc : c ∈ cs) : (m.writeCells cs).read c.1 = c.2 := by
  induction cs generalizing m with
  | nil => simp at hc
  | cons d ds ih =>
    rw [List.map_cons, List.nodup_cons] at hcs
    obtain ⟨hd, hds⟩ := hcs
    rw [Memory.writeCells]
    rcases List.mem_cons.mp hc with rfl | hc
    · have hfresh : ∀ e ∈ ds, e.1 ≠ c.1 := fun e he heq => hd (heq ▸ List.mem_map_of_mem he)
      rw [Memory.read_writeCells_of_not_mem _ _ _ hfresh, Memory.read_write, if_pos rfl]
    · exact ih _ hds hc

/-- The bytes a store wrote within one word are what a read of them finds (20 R94). -/
theorem bytesAt_writeCells (m : Memory) {pa : Word} {n : Nat} (f : Nat → Byte) (h : pa.toNat % 4 + n ≤ 4) :
    (m.writeCells (cellsFrom pa ((List.range n).map f))).bytesAt pa n = (List.range n).map f := by
  rw [cellsFrom_range_within f h, Memory.bytesAt]
  refine List.map_congr_left fun k hk => ?_
  rw [toNat_add_within h (List.mem_range.mp hk)]
  refine read_writeCells_of_mem m (c := (pa.toNat + k, f k)) ?_ (List.mem_map_of_mem hk)
  rw [List.map_map]
  exact List.nodup_range.map fun a b hab => Nat.add_left_cancel hab

/-! ### A word stored and loaded again (20 R94) -/

/-- A load of a word just stored to is not stopped: a cached store takes the word out of U (20 R99). -/
theorem noteStore_not_blind (s : State) (p : PhysAddr) :
    (p.cached && (s.noteStore p).uncachedWords.has (wordOf p.pa).toNat) = false := by
  rw [State.noteStore_uncachedWords]
  cases p.cached with
  | false => rfl
  | true =>
    rw [Bool.true_and, if_pos rfl, ← Bool.not_eq_true, WordSet.has_iff, WordSet.mem_erase]
    exact fun h => h.2 rfl

/-- The state after a store to RAM, before control moves (20 R87). -/
def State.afterRamStore (s : State) (p : PhysAddr) (cells : List Host.Cell) : State :=
  { s.noteStore p with mem := s.mem.writeCells cells }

/-- A read of the bytes just stored within one word of RAM finds them, and STRICT_CACHE does not stop it. -/
theorem readPhys_afterRamStore {s : State} {p : PhysAddr} (hram : kindAt s.cfg p.pa = some .ram) {n : Nat}
    (hfit : p.pa.toNat % 4 + n ≤ 4) (v : Word) (f : Fault) {t : State}
    (ht : t = (s.afterRamStore p (cellsFrom p.pa (bytesOf n v))).advance) :
    t.readPhys p n t.uncachedWords f = .ok (littleEndian (bytesOf n v)) t := by
  have hk : kindAt t.cfg p.pa = some .ram := by rw [ht]; exact hram
  have hblind : (t.cfg.strictCache && p.cached && t.uncachedWords.has (wordOf p.pa).toNat) = false := by
    rw [Bool.and_assoc, ht]
    exact (congrArg _ (noteStore_not_blind s p)).trans (Bool.and_false _)
  have hbytes : t.mem.bytesAt p.pa n = bytesOf n v := by rw [ht]; exact bytesAt_writeCells s.mem _ hfit
  rw [readPhys_memory n f (.inl hk) hblind, hbytes]

/-- Settles O49: the store leaves the translation as it was, and the load reads the four bytes stored. -/
theorem storeThenLoadGivesTheWord : Obligations.StoreThenLoadGivesTheWord := by
  intro s rt rs rd imm p ⟨hp, hram⟩ halign hrd
  have ha : misaligned (s.effectiveAddress rs imm) 4 = false := (misaligned_four_iff _).mpr halign
  have hfit : p.pa.toNat % 4 + 4 ≤ 4 := by
    rw [translate_mod_four hp, (wordAligned_iff _).mp halign]
  obtain ⟨t, ht⟩ : ∃ t, t = (s.afterRamStore p (cellsFrom p.pa (bytesOf 4 (s.gpr rt)))).advance := ⟨_, rfl⟩
  have hsw : exec (.sw rt imm rs) s = .next t := by
    rw [ht]
    exact (storeFrom_translated hp ha rt).trans (congrArg s.complete (writePhys_ram _ hram))
  have hread := readPhys_afterRamStore hram hfit (s.gpr rt) .cachedLoadAfterUncachedStore ht
  have hea : t.effectiveAddress rs imm = s.effectiveAddress rs imm := by rw [ht]; rfl
  have hp' : t.translate (s.effectiveAddress rs imm) = some p := by rw [ht]; exact hp
  have hlw : exec (.lw rd imm rs) t = .next (t.setGpr rd (s.gpr rt)).advance := by
    simp only [exec, execLw, hea, loadInto_translated hp' ha, hread, littleEndian_bytesOf_four]
    rfl
  exact ⟨t, _, hsw, hlw, by rw [State.advance_gpr, State.gpr_setGpr, if_pos ⟨rfl, hrd⟩]⟩

/-! ### Devices (20 R92) -/

/-- A load of a device that goes on: the register gets what f makes of the device's answer, the access is recorded, and
nothing else changes (log 9, log 10). -/
def LoadedFromDevice (s : State) (rt : Reg) (f : Word → Word) (pa n : Nat) (t : State) : Prop :=
  ∃ x, t.io = .read pa n :: s.io ∧ t.draws = s.draws + 1 ∧ WroteReg s rt (f x) t ∧
    WentOn s t ∧ SameHiLo s t ∧ SameControl s t ∧ SameBytes s t ∧ SameBlind s t ∧ SameInputs s t

theorem complete_deviceRead {s : State} {q : PhysAddr} {n : Nat} {rt : Reg} {g f : Word → Word}
    (hk : kindAt s.cfg q.pa = some .io) (hc : q.cached = false)
    (hf : ∀ x, g (littleEndian (bytesOf n x)) = f x) :
    ∃ t, s.complete ((s.readPhys q n s.uncachedWords .cachedLoadAfterUncachedStore).intoGpr rt g) = .next t ∧
      LoadedFromDevice s rt f q.pa.toNat n t := by
  rw [readPhys_io n _ _ hk hc]
  refine ⟨_, rfl, Config.ioAnswer s.draws, ?_⟩
  rw [hf]
  refine ⟨by simp [State.afterDeviceRead], by simp [State.afterDeviceRead],
    fun r => State.gpr_setGpr (s.afterDeviceRead q n) rt r _, ?_⟩
  simp [State.afterDeviceRead, WentOn, SameHiLo, SameControl, SameBytes, SameBlind, SameInputs]

section Devices

variable {s : State} {ea : Word} {p : PhysAddr} {rt : Reg} {g f : Word → Word}

/-- An aligned load of a device reads the bytes it addresses. -/
theorem loadInto_device (h : ReachesIoAt s ea p) {n : Nat} (ha : ea.toNat % 4 % n = 0)
    (hf : ∀ x, g (littleEndian (bytesOf n x)) = f x) :
    ∃ t, s.loadInto ea n rt g = .next t ∧ LoadedFromDevice s rt f p.pa.toNat n t := by
  obtain ⟨hp, hk, hc⟩ := h
  rw [loadInto_translated hp ((misaligned_eq_false_iff ea n).mpr ha)]
  exact complete_deviceRead hk hc hf

/-- LWL and LWR of a device read the whole word (log 24). -/
theorem loadWordOf_device (h : ReachesIoAt s ea p) (hf : ∀ x, g x = f x) :
    ∃ t, s.complete ((s.memReadWordOf ea).intoGpr rt g) = .next t ∧
      LoadedFromDevice s rt f (p.pa.toNat - ea.toNat % 4) 4 t := by
  obtain ⟨hp, hk, hc⟩ := h
  have hk' : kindAt s.cfg (wordOf p.pa) = some .io := (kindAt_congr s.cfg (wordOf_wordOf p.pa)).trans hk
  rw [memReadWordOf_translated hp, ← translate_mod_four hp, ← wordOf_toNat]
  exact complete_deviceRead hk' hc fun x => by rw [littleEndian_bytesOf_four, hf]

end Devices

/-- Settles O53: each load is one read of the device, and its extension or merge is the one the rule names. -/
theorem deviceReadHappensOnce : Obligations.DeviceReadHappensOnce := by
  intro s rt rs imm p i pa n b f hio hb hi
  have hb4 : b < 4 := by omega
  have hload : ∃ t, exec i s = .next t ∧ LoadedFromDevice s rt f pa n t := by
    obtain ⟨rfl, rfl, rfl, rfl⟩ | ⟨rfl, rfl, rfl, rfl⟩ | ⟨rfl, ha, rfl, rfl, rfl⟩ | ⟨rfl, ha, rfl, rfl, rfl⟩ |
      ⟨rfl, ha, rfl, rfl, rfl⟩ | ⟨rfl, rfl, rfl, rfl⟩ | ⟨rfl, rfl, rfl, rfl⟩ := hi
    · exact loadInto_device hio (by omega) sextByte_bytesOf
    · exact loadInto_device hio (by omega) (littleEndian_bytesOf 1)
    · exact loadInto_device hio (by omega) sextHalf_bytesOf
    · exact loadInto_device hio (by omega) (littleEndian_bytesOf 2)
    · exact loadInto_device hio (by omega) littleEndian_bytesOf_four
    · subst hb
      rw [← byteInWord_eq] at hb4 ⊢
      exact loadWordOf_device hio fun x => mergeLeft_eq_leftMerged hb4 _ x
    · subst hb
      exact loadWordOf_device hio fun x => mergeRight_eq_rightMerged hb4 _ x
  obtain ⟨t, ht, x, hx⟩ := hload
  exact ⟨t, x, ht, hx⟩

/-- What a store does to W and U, as sets (20 R98, R99). -/
theorem noteStore_noted (s : State) (p : PhysAddr) : NotedStore s p (s.noteStore p) := by
  refine ⟨fun w => ?_, fun w => ?_⟩
  · rw [State.noteStore_storedWords, Bool.eq_iff_iff]
    simp [WordSet.has_iff, WordSet.mem_add]
  · rw [State.noteStore_uncachedWords, Bool.eq_iff_iff]
    cases p.cached with
    | true => by_cases hw : w = (wordOf p.pa).toNat <;> simp [WordSet.has_iff, WordSet.mem_erase, hw]
    | false => by_cases hw : w = (wordOf p.pa).toNat <;> simp [WordSet.has_iff, WordSet.mem_add, hw]

/-- A store to a device that goes on: the access is recorded and noted, and nothing else changes (log 9, log 11). -/
def StoredToDevice (s : State) (p : PhysAddr) (cells : List Host.Cell) (t : State) : Prop :=
  t.io = .write cells :: s.io ∧ NotedStore s p t ∧ WentOn s t ∧ SameRegs s t ∧ SameHiLo s t ∧ SameControl s t ∧
    SameBytes s t ∧ SameInputs s t ∧ t.draws = s.draws

theorem complete_deviceWrite {s : State} {p : PhysAddr} (cells : List Host.Cell)
    (hk : kindAt s.cfg p.pa = some .io) (hc : p.cached = false) :
    ∃ t, s.complete (s.writePhys p cells) = .next t ∧ StoredToDevice s p cells t := by
  rw [writePhys_io cells hk hc]
  refine ⟨_, rfl, rfl, noteStore_noted s p, ?_⟩
  exact ⟨⟨rfl, rfl, rfl⟩, fun _ => rfl, ⟨rfl, rfl⟩, ⟨rfl, rfl, rfl, rfl, rfl, rfl, rfl, rfl⟩, fun _ => rfl,
    ⟨rfl, rfl, rfl⟩, rfl⟩

theorem storeFrom_device {s : State} {ea : Word} {p : PhysAddr} (h : ReachesIoAt s ea p) {n : Nat} (rt : Reg)
    (hn : n = 1 ∨ n = 2 ∨ n = 4) (ha : ea.toNat % 4 % n = 0) :
    ∃ t, s.storeFrom ea n rt = .next t ∧
      StoredToDevice s p ((List.range n).map fun k => (p.pa.toNat + k, byteOf (s.gpr rt) k)) t := by
  obtain ⟨hp, hk, hc⟩ := h
  have hfit : p.pa.toNat % 4 + n ≤ 4 := bytesOf_cells_fit hn (by rw [translate_mod_four hp, ha])
  rw [storeFrom_translated hp ((misaligned_eq_false_iff ea n).mpr ha), bytesOf, cellsFrom_range_within _ hfit]
  exact complete_deviceWrite _ hk hc

theorem storeCells_device {s : State} {ea : Word} {p : PhysAddr} (h : ReachesIoAt s ea p)
    (cells : Word → List Host.Cell) :
    ∃ t, s.storeCells ea cells = .next t ∧ StoredToDevice s p (cells p.pa) t := by
  obtain ⟨hp, hk, hc⟩ := h
  rw [storeCells_translated hp]
  exact complete_deviceWrite _ hk hc

/-- Settles O54: each store is one write of the device, and its cells are those the rule names. -/
theorem deviceWriteHappensOnce : Obligations.DeviceWriteHappensOnce := by
  intro s rt rs imm p i pa n first b hio hb hi
  have hpb : byteInWord p.pa = b := by
    rw [byteInWord_eq, translate_mod_four hio.1, hb]
  have hstore : ∃ t, exec i s = .next t ∧
      StoredToDevice s p ((List.range n).map fun k => (pa + k, byteOf (s.gpr rt) (first + k))) t := by
    obtain ⟨rfl, rfl, rfl, rfl⟩ | ⟨rfl, ha, rfl, rfl, rfl⟩ | ⟨rfl, ha, rfl, rfl, rfl⟩ | ⟨rfl, rfl, rfl, rfl⟩ |
      ⟨rfl, rfl, rfl, rfl⟩ := hi
    · simp only [Nat.zero_add]
      exact storeFrom_device hio rt (by simp) (by omega)
    · simp only [Nat.zero_add]
      exact storeFrom_device hio rt (by simp) (by omega)
    · simp only [Nat.zero_add]
      exact storeFrom_device hio rt (by simp) (by omega)
    · have hcells := cellsFrom_range_within (fun k => byteOf (s.gpr rt) (3 - byteInWord p.pa + k)) (leftCells_fit p.pa)
      rw [← leftCells_eq, hpb, wordOf_toNat, ← byteInWord_eq, hpb] at hcells
      rw [← hcells]
      exact storeCells_device hio (leftCells · (s.gpr rt))
    · have hcells := cellsFrom_range_within (byteOf (s.gpr rt)) (rightCells_fit p.pa)
      rw [← bytesOf, ← rightCells_eq, hpb] at hcells
      simp only [Nat.zero_add, ← hcells]
      exact storeCells_device hio (rightCells · (s.gpr rt))
  exact hstore

/-! ### Which bytes of memory can change (20 R71, R76, R91) -/

/-- Settles O55: a body that is no store writes registers, HI and LO, or control state alone. -/
theorem onlyStoresChangeMemory : Obligations.OnlyStoresChangeMemory := by
  intro s t i hi h
  unfold SameBytes SameBlind
  cases exec_next h with
  | wentOn _ hu =>
    cases hu with
    | reg r v hf => simp [hf.mem, hf.storedWords, hf.uncachedWords]
    | store hs => exact absurd hs (by simp [hi])
    | control hw => obtain ⟨-, rfl⟩ | ⟨-, rfl⟩ | ⟨-, rfl⟩ | ⟨-, rfl⟩ := writeControl_ok hw <;> simp
    | hiLo | tlbr | tlbwi | rfe => simp
  | trapped | jumped => simp

/-- From s to t memory changed at most in one aligned word of RAM, one that an address translates to. -/
def StoredWithinRamWord (s t : State) : Prop :=
  ∃ la p, s.translate la = some p ∧ kindAt s.cfg p.pa = some .ram ∧
    ∀ a, a / 4 ≠ p.pa.toNat / 4 → t.mem.read a = s.mem.read a

section Bytes

variable {s t u : State} {la : Word} {p : PhysAddr}

theorem writePhys_bytes {start : Word} {n : Nat} {f : Nat → Byte} (hp : s.translate la = some p)
    (hstart : start.toNat / 4 = p.pa.toNat / 4) (hfit : start.toNat % 4 + n ≤ 4)
    (hw : s.writePhys p (cellsFrom start ((List.range n).map f)) = .ok () u) :
    SameBytes s u.advance ∨ StoredWithinRamWord s u.advance := by
  obtain ⟨hk, rfl⟩ | ⟨-, -, rfl⟩ := writePhys_ok hw
  · refine .inr ⟨la, p, hp, hk, fun a ha => Memory.read_writeCells_of_not_mem _ _ _ fun c hc hca => ha ?_⟩
    rw [← hca, mem_cellsFrom_range hc hfit, hstart]
  · exact .inl fun _ => rfl

theorem storeFrom_bytes {n : Nat} {rt : Reg} (hn : n = 1 ∨ n = 2 ∨ n = 4) (h : s.storeFrom la n rt = .next t) :
    SameBytes s t ∨ StoredWithinRamWord s t := by
  obtain ⟨ha, ⟨p, u, hp, hw, rfl⟩ | ⟨-, rfl⟩⟩ := storeFrom_next h
  · have hfit : p.pa.toNat % 4 + n ≤ 4 :=
      bytesOf_cells_fit hn (by rw [translate_mod_four hp, (misaligned_eq_false_iff la n).mp ha])
    exact writePhys_bytes hp rfl hfit hw
  · exact .inl fun _ => rfl

theorem storeLeft_bytes {v : Word} (h : s.storeCells la (leftCells · v) = .next t) :
    SameBytes s t ∨ StoredWithinRamWord s t := by
  obtain ⟨p, u, hp, hw, rfl⟩ | ⟨-, rfl⟩ := storeCells_next h
  · have hword : (wordOf p.pa).toNat / 4 = p.pa.toNat / 4 := by rw [wordOf_toNat]; omega
    rw [leftCells_eq] at hw
    exact writePhys_bytes hp hword (leftCells_fit p.pa) hw
  · exact .inl fun _ => rfl

theorem storeRight_bytes {v : Word} (h : s.storeCells la (rightCells · v) = .next t) :
    SameBytes s t ∨ StoredWithinRamWord s t := by
  obtain ⟨p, u, hp, hw, rfl⟩ | ⟨-, rfl⟩ := storeCells_next h
  · rw [rightCells_eq] at hw
    exact writePhys_bytes hp rfl (rightCells_fit p.pa) hw
  · exact .inl fun _ => rfl

/-- What an instruction can do to memory: nothing, or a store within one word of RAM. -/
theorem exec_bytes {i : Instr} (h : exec i s = .next t) : SameBytes s t ∨ StoredWithinRamWord s t := by
  cases hi : i.isStore with
  | false => exact .inl (onlyStoresChangeMemory s t i hi h).1
  | true =>
    cases i with
    | sb | sh | sw => exact storeFrom_bytes (by simp) h
    | swl => exact storeLeft_bytes h
    | swr => exact storeRight_bytes h
    | _ => simp [Instr.isStore] at hi

/-- What a step can do to memory: the fetch before the instruction leaves memory, TLB and parameters as they were. -/
theorem step_bytes (h : step s = .next t) : SameBytes s t ∨ StoredWithinRamWord s t := by
  obtain ⟨-, rfl⟩ | ⟨-, -, -, rfl⟩ | ⟨-, -, ⟨-, rfl⟩ | ⟨w, u, i, hf, -, he⟩⟩ := step_next h
  · exact .inl fun _ => rfl
  · exact .inl fun _ => rfl
  · exact .inl fun _ => rfl
  · have hframe := fetch_frame hf
    have hmem : u.mem = s.mem := hframe.mem
    have hcfg : u.cfg = s.cfg := hframe.cfg
    have htlb : u.tlb = s.tlb := hframe.tlb
    unfold SameBytes StoredWithinRamWord
    simp only [← hmem, ← hcfg, ← State.translate_congr htlb]
    exact exec_bytes he

end Bytes

/-- Settles O56: a word of RAM is no word of ROM. -/
theorem romNeverChanges : Obligations.RomNeverChanges := by
  intro s t pa h hrom
  obtain hsame | ⟨la, p, -, hram, hkept⟩ := step_bytes h
  · exact hsame pa.toNat
  · refine hkept _ fun hword => ?_
    have hkind : kindAt s.cfg pa = kindAt s.cfg p.pa := kindAt_congr s.cfg (wordOf_congr hword)
    rw [hrom, hram] at hkind
    cases hkind

/-- Where no valid entry has a frame in high memory, no address translates there (20 R76). -/
theorem translate_low {s : State} {la : Word} {p : PhysAddr} (hp : s.translate la = some p)
    (hlow : ∀ (k : Nat) (hk : k < 64), s.tlb[k].v = true → s.tlb[k].pfn.toNat * 2 ^ 12 < 0x20000000) :
    p.pa.toNat < 0x20000000 := by
  obtain ⟨-, rfl⟩ | ⟨-, hv, -, heq⟩ := translate_some hp
  · rw [unmappedAddr_toNat]
    omega
  · have hpa : p.pa.toNat = (s.tlbEntryFor la).pfn.toNat * 2 ^ 12 + la.toNat % 2 ^ 12 := by
      rw [heq, pageAddr_toNat]
    have hpfn : (s.tlbEntryFor la).pfn.toNat * 2 ^ 12 < 0x20000000 := hlow _ (la.extractLsb' 12 6).isLt hv
    omega

/-- Settles O57: the fixed translation reaches the low 512 MB alone, and stores go where an address translates. -/
theorem highMemoryNeedsTheTlb : Obligations.HighMemoryNeedsTheTlb := by
  refine ⟨fun s la hla => ?_, fun s la p hp hhigh hla => ?_, fun s t a h hlow ha => ?_⟩
  · have hmask : (0x1FFFFFFF : Word).toNat = 2 ^ 29 - 1 := by decide
    refine ⟨unmappedAddr la, translate_unmapped s ((isUnmapped_iff la).mpr hla), BitVec.eq_of_toNat_eq ?_⟩
    rw [unmappedAddr_toNat, BitVec.toNat_and, hmask, Nat.and_two_pow_sub_one_eq_mod]
  · rw [translate_unmapped s ((isUnmapped_iff la).mpr hla)] at hp
    cases hp
    rw [unmappedAddr_toNat] at hhigh
    omega
  · obtain hsame | ⟨la, p, hp, -, hkept⟩ := step_bytes h
    · exact hsame a
    · have hlt := translate_low hp hlow
      exact hkept a (by omega)

end Sys2Proof.Machine
end

section
/-! SUPPORT. Proofs for 30_encoding: the decoder and the encoder are inverse to each other, and the decoder against the
opcode table. -/

namespace Sys2Proof

/-! ### The decoder by its tables (30 R126) -/

theorem decode_of_special {w : Word} (h : opField w = 0#6) : decode w = decodeSpecial w := by
  simp [decode, h]

theorem decode_of_regimm {w : Word} (h : opField w = 1#6) : decode w = decodeRegimm w := by
  simp [decode, h]

theorem decode_of_cop0 {w : Word} (h : opField w = 16#6) : decode w = decodeCop0 w := by
  simp [decode, h]

@[simp] theorem ifZero_true (i : Instr) : ifZero true i = .ok i := rfl

theorem ifZero_eq_ok_iff {zero : Bool} {i j : Instr} : ifZero zero i = .ok j ↔ zero = true ∧ i = j := by
  cases zero <;> simp [ifZero]

/-! ### Decoding an encoded instruction -/

/-- The instructions are grouped by the table that decodes them: the opcode alone (30 R127), SPECIAL (R128), REGIMM
(R129), COP0 (R130). -/
theorem decode_encode (i : Instr) : decode (encode i) = .ok i := by
  cases i
  case lb | lbu | sb | lh | lhu | sh | lw | sw | lwl | lwr | swl | swr |
      addi | addiu | slti | sltiu | andi | ori | xori | lui | j | jal | beq | bne | blez | bgtz =>
    simp [encode, decode]
  case add | addu | sub | subu | slt | sltu | and | or | xor | nor | sll | srl | sra | sllv | srlv | srav |
      mult | multu | div | divu | mfhi | mthi | mflo | mtlo | jr | jalr | syscall | brk =>
    simp [encode, decode_of_special, decodeSpecial]
  case bltz | bgez | bltzal | bgezal =>
    simp [encode, decode_of_regimm, decodeRegimm]
  case mfc0 | mtc0 | tlbr | tlbwi | rfe =>
    simp [encode, decode_of_cop0, decodeCop0]

/-- Settles O1, by the table that decodes the instruction. -/
theorem decodeOfEncodeIsIdentity : Obligations.DecodeOfEncodeIsIdentity := decode_encode

/-! ### A word is put together from its fields (30 R121 to R123) -/

theorem codeField_append_functField (w : Word) : codeField w ++ functField w = indexField w :=
  BitVec.extractLsb'_append_extractLsb'_eq_extractLsb' rfl

theorem shamtField_append_functField (w : Word) : shamtField w ++ functField w = w.extractLsb' 0 11 :=
  BitVec.extractLsb'_append_extractLsb'_eq_extractLsb' rfl

theorem rdField_append_low (w : Word) : rdField w ++ w.extractLsb' 0 11 = immField w :=
  BitVec.extractLsb'_append_extractLsb'_eq_extractLsb' rfl

theorem rtField_append_immField (w : Word) : rtField w ++ immField w = w.extractLsb' 0 21 :=
  BitVec.extractLsb'_append_extractLsb'_eq_extractLsb' rfl

theorem rsField_append_low (w : Word) : rsField w ++ w.extractLsb' 0 21 = indexField w :=
  BitVec.extractLsb'_append_extractLsb'_eq_extractLsb' rfl

theorem jType_fields (w : Word) : jType (opField w) (indexField w) = w :=
  (BitVec.extractLsb'_append_extractLsb'_eq_extractLsb' rfl).trans (extractLsb'_whole w)

theorem codeType_fields {w : Word} (hop : opField w = 0#6) : codeType (codeField w) (functField w) = w := by
  unfold codeType
  rw [codeField_append_functField, ← hop]
  exact jType_fields w

theorem iType_fields (w : Word) : iType (opField w) (rsField w) (rtField w) (immField w) = w := by
  unfold iType
  rw [rtField_append_immField, rsField_append_low]
  exact jType_fields w

theorem rType_fields (w : Word) :
    rType (opField w) (rsField w) (rtField w) (rdField w) (shamtField w) (functField w) = w := by
  unfold rType
  rw [shamtField_append_functField, rdField_append_low]
  exact iType_fields w

theorem jType_eq_iff {op : BitVec 6} {index : Index26} {w : Word} :
    jType op index = w ↔ opField w = op ∧ indexField w = index := by
  constructor
  · rintro rfl; simp
  · rintro ⟨rfl, rfl⟩; exact jType_fields w

theorem codeType_eq_iff {code : Code20} {fn : BitVec 6} {w : Word} :
    codeType code fn = w ↔ opField w = 0#6 ∧ codeField w = code ∧ functField w = fn := by
  constructor
  · rintro rfl; simp
  · rintro ⟨hop, rfl, rfl⟩; exact codeType_fields hop

theorem iType_eq_iff {op : BitVec 6} {rs rt : Reg} {imm : Imm16} {w : Word} :
    iType op rs rt imm = w ↔ opField w = op ∧ rsField w = rs ∧ rtField w = rt ∧ immField w = imm := by
  constructor
  · rintro rfl; simp
  · rintro ⟨rfl, rfl, rfl, rfl⟩; exact iType_fields w

theorem rType_eq_iff {op : BitVec 6} {rs rt rd : Reg} {sa : BitVec 5} {fn : BitVec 6} {w : Word} :
    rType op rs rt rd sa fn = w ↔ opField w = op ∧ rsField w = rs ∧ rtField w = rt ∧ rdField w = rd ∧
      shamtField w = sa ∧ functField w = fn := by
  constructor
  · rintro rfl; simp
  · rintro ⟨rfl, rfl, rfl, rfl, rfl, rfl⟩; exact rType_fields w

/-! ### Encoding a decoded instruction -/

/-- The decoder selects by the number in a field; the encoder writes the field. -/
theorem eq_ofNat_of_toNat {n k : Nat} {x : BitVec n} (h : x.toNat = k) : x = BitVec.ofNat n k :=
  (BitVec.toNat_eq_nat.mp h).2

theorem encode_of_decodeSpecial {w : Word} {i : Instr} (hop : opField w = 0#6) (h : decodeSpecial w = .ok i) :
    encode i = w := by
  unfold decodeSpecial at h
  split at h
  all_goals simp only [ifZero_eq_ok_iff, Bool.and_eq_true, beq_iff_eq, Except.ok.injEq, reduceCtorEq] at h
  case h_9 hfn | h_10 hfn => -- SYSCALL and BREAK
    subst h
    exact codeType_eq_iff.mpr ⟨hop, rfl, eq_ofNat_of_toNat hfn⟩
  all_goals
    next hfn =>
    obtain ⟨hzero, rfl⟩ := h
    exact rType_eq_iff.mpr (by simp [hop, eq_ofNat_of_toNat hfn, hzero])

theorem encode_of_decodeRegimm {w : Word} {i : Instr} (hop : opField w = 1#6) (h : decodeRegimm w = .ok i) :
    encode i = w := by
  unfold decodeRegimm at h
  split at h <;> cases h
  all_goals
    next hrt => exact iType_eq_iff.mpr ⟨hop, rfl, eq_ofNat_of_toNat hrt, rfl⟩

theorem encode_of_decodeCop0 {w : Word} {i : Instr} (hop : opField w = 16#6) (h : decodeCop0 w = .ok i) :
    encode i = w := by
  unfold decodeCop0 at h
  split at h
  all_goals simp only [ifZero_eq_ok_iff, Bool.and_eq_true, beq_iff_eq, reduceCtorEq] at h
  all_goals
    next hrs hfn =>
    obtain ⟨hzero, rfl⟩ := h
    exact rType_eq_iff.mpr (by simp [hop, eq_ofNat_of_toNat hrs, eq_ofNat_of_toNat hfn, hzero])

/-- In every branch the fields that selected it and the must-be-zero fields checked there are the ones the encoder
writes; the operands are the other fields. -/
theorem encode_of_decode {w : Word} {i : Instr} (h : decode w = .ok i) : encode i = w := by
  unfold decode at h
  split at h
  all_goals simp only [ifZero_eq_ok_iff, beq_iff_eq, Except.ok.injEq, reduceCtorEq] at h
  case h_1 hop => exact encode_of_decodeSpecial (eq_ofNat_of_toNat hop) h
  case h_2 hop => exact encode_of_decodeRegimm (eq_ofNat_of_toNat hop) h
  case h_17 hop => exact encode_of_decodeCop0 (eq_ofNat_of_toNat hop) h
  case h_3 hop | h_4 hop => -- J and JAL
    subst h
    exact jType_eq_iff.mpr ⟨eq_ofNat_of_toNat hop, rfl⟩
  case h_7 hop | h_8 hop | h_16 hop => -- BLEZ, BGTZ and LUI, each with a must-be-zero field
    obtain ⟨hzero, rfl⟩ := h
    exact iType_eq_iff.mpr (by simp [eq_ofNat_of_toNat hop, hzero])
  all_goals
    next hop =>
    subst h
    exact iType_eq_iff.mpr ⟨eq_ofNat_of_toNat hop, rfl, rfl, rfl⟩

/-- Settles O2, by the branch of the decoder that accepts the word. -/
theorem encodeOfDecodeIsIdentity : Obligations.EncodeOfDecodeIsIdentity := fun _ _ => encode_of_decode

/-! ### Every accepted word is in the opcode table -/

open Laws in
theorem encodesToRow : ∀ i : Instr, EncodesToRow.Statement i :=
  Instr.rec (motive := EncodesToRow.Statement)
    EncodesToRow.lb EncodesToRow.lbu EncodesToRow.sb EncodesToRow.lh EncodesToRow.lhu EncodesToRow.sh
    EncodesToRow.lw EncodesToRow.sw EncodesToRow.lwl EncodesToRow.lwr EncodesToRow.swl EncodesToRow.swr
    EncodesToRow.addi EncodesToRow.addiu EncodesToRow.slti EncodesToRow.sltiu EncodesToRow.andi EncodesToRow.ori
    EncodesToRow.xori EncodesToRow.lui EncodesToRow.add EncodesToRow.addu EncodesToRow.sub EncodesToRow.subu
    EncodesToRow.slt EncodesToRow.sltu EncodesToRow.and EncodesToRow.or EncodesToRow.xor EncodesToRow.nor
    EncodesToRow.sll EncodesToRow.srl EncodesToRow.sra EncodesToRow.sllv EncodesToRow.srlv EncodesToRow.srav
    EncodesToRow.mult EncodesToRow.multu EncodesToRow.div EncodesToRow.divu EncodesToRow.mfhi EncodesToRow.mthi
    EncodesToRow.mflo EncodesToRow.mtlo EncodesToRow.j EncodesToRow.jal EncodesToRow.jr EncodesToRow.jalr
    EncodesToRow.beq EncodesToRow.bne EncodesToRow.blez EncodesToRow.bgtz EncodesToRow.bltz EncodesToRow.bgez
    EncodesToRow.bltzal EncodesToRow.bgezal EncodesToRow.syscall EncodesToRow.brk EncodesToRow.mfc0
    EncodesToRow.mtc0 EncodesToRow.tlbr EncodesToRow.tlbwi EncodesToRow.rfe

theorem exists_row_of_decode {w : Word} {i : Instr} (h : decode w = .ok i) :
    ∃ r ∈ opcodeRows, r.selects w = true := by
  obtain ⟨r, hr, -, hsel⟩ := encodesToRow i
  exact ⟨r, hr, encode_of_decode h ▸ hsel⟩

/-! ### The decoder reads each row of the opcode table -/

@[simp] theorem and_sixtyThree (x : BitVec 6) : x &&& 63#6 = x := BitVec.and_allOnes

@[simp] theorem and_thirtyOne (x : BitVec 5) : x &&& 31#5 = x := BitVec.and_allOnes

/-- The mask and the pattern of a row, field by field. -/
theorem OpcodeRow.selects_rType_iff {r : OpcodeRow} {op : BitVec 6} {rs rt rd : Reg} {sa : BitVec 5} {fn : BitVec 6} :
    r.selects (rType op rs rt rd sa fn) = true ↔
      op &&& opField r.mask = opField r.pattern ∧ rs &&& rsField r.mask = rsField r.pattern ∧
        rt &&& rtField r.mask = rtField r.pattern ∧ rd &&& rdField r.mask = rdField r.pattern ∧
        sa &&& shamtField r.mask = shamtField r.pattern ∧ fn &&& functField r.mask = functField r.pattern := by
  have hmask : rType op rs rt rd sa fn &&& r.mask = rType (op &&& opField r.mask) (rs &&& rsField r.mask)
      (rt &&& rtField r.mask) (rd &&& rdField r.mask) (sa &&& shamtField r.mask) (fn &&& functField r.mask) := by
    rw [← rType_and, rType_fields]
  rw [OpcodeRow.selects, beq_iff_eq, hmask, rType_eq_iff]
  simp only [eq_comm]

/-- Row by row: the fields the row fixes are the ones the decoder selects its branch by and checks for zero there, and
the branch reads an instruction with the row's mnemonic. -/
theorem decode_rType_of_row {r : OpcodeRow} (hr : r ∈ opcodeRows) {op : BitVec 6} {rs rt rd : Reg} {sa : BitVec 5}
    {fn : BitVec 6} (hsel : r.selects (rType op rs rt rd sa fn) = true) :
    (decode (rType op rs rt rd sa fn)).map Instr.mnemonic = .ok r.mnemonic := by
  rw [OpcodeRow.selects_rType_iff] at hsel
  fin_cases hr
  all_goals
    simp [opField, rsField, rtField, rdField, shamtField, functField] at hsel
    simp [decode, decodeSpecial, decodeRegimm, decodeCop0, hsel, Except.map, Instr.mnemonic]

theorem decode_of_row {r : OpcodeRow} (hr : r ∈ opcodeRows) {w : Word} (hsel : r.selects w = true) :
    ∃ i, decode w = .ok i ∧ i.mnemonic = r.mnemonic := by
  have hread : (decode w).map Instr.mnemonic = .ok r.mnemonic := by
    rw [← rType_fields w] at hsel ⊢
    exact decode_rType_of_row hr hsel
  cases hw : decode w with
  | error e => rw [hw] at hread; cases hread
  | ok i => rw [hw] at hread; exact ⟨i, rfl, Except.ok.inj hread⟩

theorem decode_ok_iff_row (w : Word) : (∃ i, decode w = .ok i) ↔ ∃ r ∈ opcodeRows, r.selects w = true := by
  constructor
  · rintro ⟨i, hi⟩
    exact exists_row_of_decode hi
  · rintro ⟨r, hr, hsel⟩
    obtain ⟨i, hi, -⟩ := decode_of_row hr hsel
    exact ⟨i, hi⟩

/-- Settles O3: the row of an instruction selects its word, and each row's words are read as the row's instruction. -/
theorem decoderAgreesWithOpcodeTable : Obligations.DecoderAgreesWithOpcodeTable := by
  refine ⟨decode_ok_iff_row, fun w i hi r hr hsel => ?_⟩
  obtain ⟨j, hj, hmnemonic⟩ := decode_of_row hr hsel
  have hji : j = i := Except.ok.inj (hj.symm.trans hi)
  rw [← hmnemonic, hji]

/-- A word no row selects is rejected (30 R133 to R135). -/
theorem decode_error_of_no_row {w : Word} (h : ∀ r ∈ opcodeRows, r.selects w = false) :
    ∃ e, decode w = .error e := by
  cases hw : decode w with
  | error e => exact ⟨e, rfl⟩
  | ok i =>
    obtain ⟨r, hr, hsel⟩ := exists_row_of_decode hw
    rw [h r hr] at hsel
    cases hsel

end Sys2Proof

namespace Sys2Proof.Machine

/-- With no reset and no enabled interrupt, the step runs the word that memory holds at pc (10 R27). -/
theorem step_eq_runWord {s : State} {p : PhysAddr} (hreset : s.pinsNow.reset = false)
    (hirq : (s.pinsNow.irq && s.sr.iec) = false) (hmemory : FetchesMemoryAt s p) :
    step s = s.popPins.runWord (s.wordAt p.pa) := by
  have hfetch : s.popPins.fetch = .ok (s.wordAt p.pa) s.popPins := fetch_memory (s := s.popPins) hmemory
  calc step s
    _ = s.popPins.fetchAndRun := by simp [step, State.cycle, hreset, hirq]
    _ = s.popPins.runWord (s.wordAt p.pa) := by simp only [State.fetchAndRun, hfetch]

/-- Settles O6: the fetched word is rejected, and the step stops on a rejected word. -/
theorem reservedWordStops : Obligations.ReservedWordStops := by
  intro s p hreset hirq hmemory hrows
  obtain ⟨e, he⟩ := decode_error_of_no_row hrows
  rw [step_eq_runWord hreset hirq hmemory]
  simp only [State.runWord, he]

end Sys2Proof.Machine
end

section
/-! SUPPORT. Proofs for 40_load_store: what a load or store does where its address misses, where it reads memory, and
where it writes RAM. -/

namespace Sys2Proof.Machine

/-! ### Accesses that miss (40 R160, 60 R262, R270) -/

/-- The instruction takes a TLB miss of ea from s, and does nothing else. -/
def TakesMiss (s : State) (ea : Word) (i : Instr) : Prop :=
  ∃ t, exec i s = .next t ∧ TookTrap s 1 ea t

section Misses

variable {s : State} {ea : Word} {i : Instr} {rt : Reg}

theorem takesMiss_of_trapEntry (hi : exec i s = .next (s.trapEntry (.tlbMiss ea))) : TakesMiss s ea i :=
  ⟨_, hi, trapEntry_tookTrap s (.tlbMiss ea)⟩

theorem takesMiss_of_loadInto {n : Nat} {ext : Word → Word} (hmiss : s.translate ea = none)
    (ha : misaligned ea n = false) (hi : exec i s = s.loadInto ea n rt ext) : TakesMiss s ea i :=
  takesMiss_of_trapEntry <| by simp [hi, State.loadInto, ha, State.memRead, hmiss, Res.intoGpr, State.complete]

theorem takesMiss_of_loadWordOf {f : Word → Word} (hmiss : s.translate ea = none)
    (hi : exec i s = s.complete ((s.memReadWordOf ea).intoGpr rt f)) : TakesMiss s ea i :=
  takesMiss_of_trapEntry <| by simp [hi, State.memReadWordOf, hmiss, Res.intoGpr, State.complete]

theorem takesMiss_of_storeFrom {n : Nat} (hmiss : s.translate ea = none)
    (ha : misaligned ea n = false) (hi : exec i s = s.storeFrom ea n rt) : TakesMiss s ea i :=
  takesMiss_of_trapEntry <| by simp [hi, State.storeFrom, ha, State.memWrite, hmiss, State.complete]

theorem takesMiss_of_storeCells {cells : Word → List Host.Cell} (hmiss : s.translate ea = none)
    (hi : exec i s = s.storeCells ea cells) : TakesMiss s ea i :=
  takesMiss_of_trapEntry <| by simp [hi, State.storeCells, hmiss, State.complete]

end Misses

/-- Settles O15: past the alignment check every load and store translates its address first. -/
theorem dataMissIsTaken : Obligations.DataMissIsTaken := by
  intro s rt rs imm hmiss
  refine ⟨?_, fun ha => ?_, fun ha => ?_⟩ <;>
    simp only [List.forall_mem_cons, List.not_mem_nil, false_imp_iff, implies_true, and_true]
  · have ha := misaligned_one (s.effectiveAddress rs imm)
    exact ⟨takesMiss_of_loadInto hmiss ha rfl, takesMiss_of_loadInto hmiss ha rfl,
      takesMiss_of_storeFrom hmiss ha rfl, takesMiss_of_loadWordOf hmiss rfl, takesMiss_of_loadWordOf hmiss rfl,
      takesMiss_of_storeCells (cells := (leftCells · (s.gpr rt))) hmiss rfl,
      takesMiss_of_storeCells (cells := (rightCells · (s.gpr rt))) hmiss rfl⟩
  · have ha := (misaligned_two_iff _).mpr ha
    exact ⟨takesMiss_of_loadInto hmiss ha rfl, takesMiss_of_loadInto hmiss ha rfl,
      takesMiss_of_storeFrom hmiss ha rfl⟩
  · have ha := (misaligned_four_iff _).mpr ha
    exact ⟨takesMiss_of_loadInto hmiss ha rfl, takesMiss_of_storeFrom hmiss ha rfl⟩

/-! ### Bytes of memory as values (20 R72) -/

theorem littleEndian_one (b : Byte) : littleEndian [b] = b.setWidth 32 := by
  simp [littleEndian]

theorem littleEndian_two (b0 b1 : Byte) : littleEndian [b0, b1] = (b1 ++ b0).setWidth 32 := by
  refine BitVec.eq_of_getLsbD_eq fun k hk => ?_
  rw [getLsbD_littleEndian_cons _ _ hk, littleEndian_one, BitVec.getLsbD_setWidth, BitVec.getLsbD_setWidth,
    BitVec.getLsbD_append]
  simp [hk, show k - 8 < 32 by omega]

theorem littleEndian_bytesAt_one (s : State) (pa : Word) :
    littleEndian (s.mem.bytesAt pa 1) = (s.byteAt pa 0).setWidth 32 :=
  littleEndian_one (s.byteAt pa 0)

theorem littleEndian_bytesAt_two (s : State) (pa : Word) :
    littleEndian (s.mem.bytesAt pa 2) = (s.byteAt pa 1 ++ s.byteAt pa 0).setWidth 32 :=
  littleEndian_two (s.byteAt pa 0) (s.byteAt pa 1)

theorem sextByte_setWidth (b : Byte) : sextByte (b.setWidth 32) = b.signExtend 32 := by
  rw [sextByte, BitVec.setWidth_setWidth_of_le _ (by decide), BitVec.setWidth_eq]

theorem sextHalf_setWidth (h : BitVec 16) : sextHalf (h.setWidth 32) = h.signExtend 32 := by
  rw [sextHalf, BitVec.setWidth_setWidth_of_le _ (by decide), BitVec.setWidth_eq]

/-- Going down from an address by its place in its word leads to the word. -/
theorem sub_mod_four (a : Word) : a - BitVec.ofNat 32 (a.toNat % 4) = wordOf a := by
  have ha : a.toNat < 2 ^ 32 := a.isLt
  refine BitVec.eq_of_toNat_eq ?_
  rw [wordOf_toNat, BitVec.toNat_sub, BitVec.toNat_ofNat]
  omega

/-! ### Loads from memory (40 R162 to R171) -/

/-- Writing one register and going on is all that `RegOnly` allows. -/
theorem setGpr_advance_regOnly (s : State) (r : Reg) (v : Word) : RegOnly s r v (s.setGpr r v).advance := by
  refine ⟨fun q => State.gpr_setGpr s r q v, ?_⟩
  simp [WentOn, SameHiLo, SameControl, SameMemory, SameBytes, SameBlind, SameOutside, SameInputs]

section Loads

variable {s : State} {ea v : Word} {p : PhysAddr} {rt : Reg} {g : Word → Word}

theorem complete_memoryRead {q : PhysAddr} {n : Nat}
    (hk : kindAt s.cfg q.pa = some .ram ∨ kindAt s.cfg q.pa = some .rom)
    (hb : (s.cfg.strictCache && q.cached && s.uncachedWords.has (wordOf q.pa).toNat) = false)
    (hv : g (littleEndian (s.mem.bytesAt q.pa n)) = v) :
    ∃ t, s.complete ((s.readPhys q n s.uncachedWords .cachedLoadAfterUncachedStore).intoGpr rt g) = .next t ∧
      RegOnly s rt v t := by
  rw [readPhys_memory n _ hk hb, ← hv]
  exact ⟨_, rfl, setGpr_advance_regOnly s rt _⟩

theorem loadInto_memory (h : ReadsMemoryAt s ea p) {n : Nat} (ha : misaligned ea n = false)
    (hv : g (littleEndian (s.mem.bytesAt p.pa n)) = v) :
    ∃ t, s.loadInto ea n rt g = .next t ∧ RegOnly s rt v t := by
  obtain ⟨hp, hk, hb⟩ := h
  rw [loadInto_translated hp ha]
  exact complete_memoryRead hk hb hv

/-- LWL and LWR read the word of the translated address (log 24). -/
theorem loadWordOf_memory (h : ReadsMemoryAt s ea p) (hv : g (s.wordAt (wordOf p.pa)) = v) :
    ∃ t, s.complete ((s.memReadWordOf ea).intoGpr rt g) = .next t ∧ RegOnly s rt v t := by
  obtain ⟨hp, hk, hb⟩ := h
  have hword : wordOf (wordOf p.pa) = wordOf p.pa := wordOf_wordOf p.pa
  rw [memReadWordOf_translated hp]
  refine complete_memoryRead ?_ ?_ (by rw [littleEndian_bytesAt_four, hv])
  · rwa [kindAt_congr s.cfg hword]
  · rwa [hword]

/-- LWL by the formula of its merge (40 R170). -/
theorem exec_lwl_memory {rs : Reg} {imm : Imm16} (h : ReadsMemoryAt s (s.effectiveAddress rs imm) p) :
    ∃ t, exec (.lwl rt imm rs) s = .next t ∧
      RegOnly s rt (mergeLeft (byteInWord (s.effectiveAddress rs imm)) (s.gpr rt) (s.wordAt (wordOf p.pa))) t :=
  loadWordOf_memory h rfl

/-- LWR by the formula of its merge (40 R171). -/
theorem exec_lwr_memory {rs : Reg} {imm : Imm16} (h : ReadsMemoryAt s (s.effectiveAddress rs imm) p) :
    ∃ t, exec (.lwr rt imm rs) s = .next t ∧
      RegOnly s rt (mergeRight (byteInWord (s.effectiveAddress rs imm)) (s.gpr rt) (s.wordAt (wordOf p.pa))) t :=
  loadWordOf_memory h rfl

end Loads

/-- Settles O44: each aligned load reads its bytes, and extends them as its mnemonic says. -/
theorem alignedLoadResults : Obligations.AlignedLoadResults := by
  intro s rt rs imm p h
  have hbyte := misaligned_one (s.effectiveAddress rs imm)
  refine ⟨loadInto_memory h hbyte ?_, loadInto_memory h hbyte ?_, fun ha => ?_, fun ha => ?_⟩
  · rw [littleEndian_bytesAt_one, sextByte_setWidth]
  · exact littleEndian_bytesAt_one s p.pa
  · have hhalf := (misaligned_two_iff _).mpr ha
    refine ⟨loadInto_memory h hhalf ?_, loadInto_memory h hhalf ?_⟩
    · rw [littleEndian_bytesAt_two, sextHalf_setWidth]
    · exact littleEndian_bytesAt_two s p.pa
  · exact loadInto_memory h ((misaligned_four_iff _).mpr ha) (littleEndian_bytesAt_four s p.pa)

/-- Settles O45: the word read is the one b bytes down, and the merges make the two tables. -/
theorem unalignedLoadResults : Obligations.UnalignedLoadResults := by
  rintro s rt rs imm p w b h rfl hb
  have hb4 : b < 4 := by omega
  rw [← hb, ← translate_mod_four h.1, sub_mod_four, translate_mod_four h.1, hb]
  have hbyte : byteInWord (s.effectiveAddress rs imm) = b := by rw [byteInWord_eq, hb]
  rw [← mergeLeft_eq_leftMerged hb4, ← mergeRight_eq_rightMerged hb4, ← hbyte]
  exact ⟨exec_lwl_memory h, exec_lwr_memory h⟩

/-! ### An unaligned word by LWR and LWL (40 R171) -/

/-- LWL keeps the low 3 - b bytes of the register and puts the word's low bytes above them. -/
theorem byteOf_mergeLeft {b k : Nat} (hb : b < 4) (hk : k < 4) (r w : Word) :
    byteOf (mergeLeft b r w) k = if k < 3 - b then byteOf r k else byteOf w (k - (3 - b)) := by
  refine BitVec.eq_of_getLsbD_eq fun j hj => ?_
  rw [getLsbD_byteOf, getLsbD_mergeLeft hb (by omega)]
  by_cases h : k < 3 - b
  · rw [if_pos h, if_pos (by omega), getLsbD_byteOf]
  · rw [if_neg h, if_neg (by omega), getLsbD_byteOf, show 8 * k + j - 8 * (3 - b) = 8 * (k - (3 - b)) + j by omega]

/-- LWR puts the word's top 4 - b bytes at the bottom of the register and keeps the bytes above them. -/
theorem byteOf_mergeRight {b k : Nat} (hk : k < 4) (r w : Word) :
    byteOf (mergeRight b r w) k = if b + k < 4 then byteOf w (b + k) else byteOf r k := by
  refine BitVec.eq_of_getLsbD_eq fun j hj => ?_
  rw [getLsbD_byteOf, getLsbD_mergeRight (by omega)]
  by_cases h : b + k < 4
  · rw [if_pos h, if_pos (by omega), getLsbD_byteOf, Nat.mul_add, Nat.add_assoc]
  · rw [if_neg h, if_neg (by omega), getLsbD_byteOf]

/-- LWR at byte b, then LWL at the byte three above, leave nothing of the register: byte k comes from the first word
where it lies there, else from the second. -/
theorem byteOf_mergeLeft_mergeRight {b k : Nat} (hb : b < 4) (hk : k < 4) (r w w' : Word) :
    byteOf (mergeLeft ((b + 3) % 4) (mergeRight b r w) w') k =
      if 0 < b ∧ b + k < 4 then byteOf w (b + k) else byteOf w' ((b + k) % 4) := by
  rw [byteOf_mergeLeft (Nat.mod_lt _ (by decide)) hk]
  by_cases h : 0 < b ∧ b + k < 4
  · rw [if_pos h, if_pos (by omega), byteOf_mergeRight hk, if_pos h.2]
  · rw [if_neg h, if_neg (by omega), show k - (3 - (b + 3) % 4) = (b + k) % 4 by omega]

theorem byteOf_wordAt (s : State) (pa : Word) {k : Nat} (hk : k < 4) : byteOf (s.wordAt pa) k = s.byteAt pa k := by
  refine BitVec.eq_of_getLsbD_eq fun j hj => ?_
  rw [getLsbD_byteOf, ← littleEndian_bytesAt_four, Memory.bytesAt, getLsbD_littleEndian_range 4 _ (by omega),
    show (8 * k + j) / 8 = k by omega, show (8 * k + j) % 8 = j by omega]
  simp [hj, show 8 * k + j < 32 by omega, State.byteAt]

/-- An address of the same word as one that translates, translates too, to its place in the word that one goes to. -/
theorem translate_sameWord {s : State} {la la' : Word} {p : PhysAddr} (hp : s.translate la = some p)
    (hword : la'.toNat / 4 = la.toNat / 4) :
    ∃ x, s.translate la' = some x ∧ x.pa.toNat = (wordOf p.pa).toNat + la'.toNat % 4 := by
  rw [wordOf_toNat]
  obtain ⟨hu, rfl⟩ | ⟨hu, hv, hvpn, rfl⟩ := translate_some hp
  · have hu' : isUnmapped la' = true := by
      rw [isUnmapped_iff_range] at hu ⊢
      omega
    refine ⟨_, translate_unmapped s hu', ?_⟩
    rw [unmappedAddr_toNat, unmappedAddr_toNat]
    omega
  · have hu' : isUnmapped la' = false := by
      rw [← Bool.not_eq_true, isUnmapped_iff_range] at hu ⊢
      omega
    have hpage : la'.extractLsb' 12 20 = la.extractLsb' 12 20 := by
      refine BitVec.eq_of_toNat_eq ?_
      rw [BitVec.extractLsb'_toNat, BitVec.extractLsb'_toNat, Nat.shiftRight_eq_div_pow, Nat.shiftRight_eq_div_pow]
      omega
    have hentry : s.tlbEntryFor la' = s.tlbEntryFor la := by
      simp only [tlbEntryFor_eq, show la'.toNat / 2 ^ 12 = la.toNat / 2 ^ 12 by omega]
    refine ⟨_, by rw [translate_mapped s hu', hentry, hpage, if_pos ⟨hv, hvpn⟩], ?_⟩
    rw [pageAddr_toNat, pageAddr_toNat]
    omega

/-- Where one address of a word translates, memory holds at every address of that word its byte of the word read. -/
theorem read_sameWord {s : State} {la la' : Word} {p : PhysAddr} (hp : s.translate la = some p)
    (hword : la'.toNat / 4 = la.toNat / 4) :
    ∃ x, s.translate la' = some x ∧ byteOf (s.wordAt (wordOf p.pa)) (la'.toNat % 4) = s.mem.read x.pa.toNat := by
  obtain ⟨x, hx, hpa⟩ := translate_sameWord hp hword
  have hk : la'.toNat % 4 < 4 := Nat.mod_lt _ (by decide)
  have hfit : (wordOf p.pa).toNat % 4 + 4 ≤ 4 := by rw [wordOf_toNat]; omega
  exact ⟨x, hx, by rw [byteOf_wordAt s _ hk, State.byteAt, toNat_add_within hfit hk, hpa]⟩

theorem RegOnly.gpr_self {s t : State} {r : Reg} {v : Word} (h : RegOnly s r v t) (hr : r ≠ 0) : t.gpr r = v := by
  rw [h.1 r, if_pos ⟨rfl, hr⟩]

theorem RegOnly.gpr_other {s t : State} {r q : Reg} {v : Word} (h : RegOnly s r v t) (hq : q ≠ r) :
    t.gpr q = s.gpr q := by
  rw [h.1 q, if_neg fun hqr => hq hqr.1]

/-- A load of memory leaves what later loads depend on: translation, PHYS_MAP, U. -/
theorem RegOnly.readsMemoryAt {s t : State} {r : Reg} {v la : Word} {p : PhysAddr} (h : RegOnly s r v t)
    (hp : ReadsMemoryAt s la p) : ReadsMemoryAt t la p := by
  obtain ⟨-, -, -, ⟨-, -, -, -, -, -, -, htlb⟩, -, ⟨-, huncached⟩, ⟨hcfg, -⟩, -⟩ := h
  unfold ReadsMemoryAt
  rwa [State.translate_congr htlb, hcfg, huncached]

theorem RegOnly.wordAt_eq {s t : State} {r : Reg} {v : Word} (h : RegOnly s r v t) (pa : Word) :
    t.wordAt pa = s.wordAt pa := by
  obtain ⟨-, -, -, -, hbytes, -⟩ := h
  simp only [State.wordAt, State.byteAt, hbytes _]

theorem effectiveAddress_eq {s : State} {rs : Reg} {imm : Imm16} {a d : Word} (ha : s.gpr rs = a)
    (hd : signedImm imm = d) : s.effectiveAddress rs imm = a + d := by
  rw [State.effectiveAddress, ha, hd]

/-- What LWR and then LWL leave in the register, by the formulas of their merges. -/
theorem exec_lwr_lwl {s : State} {rt rs : Reg} {p q : PhysAddr} (hrt : rt ≠ 0) (hne : rt ≠ rs)
    (hp : ReadsMemoryAt s (s.gpr rs) p) (hq : ReadsMemoryAt s (s.gpr rs + 3) q) :
    ∃ t u, exec (.lwr rt 0 rs) s = .next t ∧ exec (.lwl rt 3 rs) t = .next u ∧
      u.gpr rt = mergeLeft (byteInWord (s.gpr rs + 3))
        (mergeRight (byteInWord (s.gpr rs)) (s.gpr rt) (s.wordAt (wordOf p.pa))) (s.wordAt (wordOf q.pa)) := by
  have hea : s.effectiveAddress rs 0 = s.gpr rs :=
    (effectiveAddress_eq rfl (by decide : signedImm 0 = 0#32)).trans (BitVec.add_zero _)
  rw [← hea] at hp
  obtain ⟨t, ht, hst⟩ := exec_lwr_memory (rt := rt) hp
  have hea' : t.effectiveAddress rs 3 = s.gpr rs + 3 := effectiveAddress_eq (hst.gpr_other hne.symm) (by decide)
  rw [← hea'] at hq
  obtain ⟨u, hu, htu⟩ := exec_lwl_memory (rt := rt) (hst.readsMemoryAt hq)
  exact ⟨t, u, ht, hu, by rw [htu.gpr_self hrt, hst.gpr_self hrt, hst.wordAt_eq, hea, hea']⟩

/-- Settles O46: the bytes LWR takes lie in the word of the first address, those LWL takes in the word of the last. -/
theorem unalignedPairLoadsTheWord : Obligations.UnalignedPairLoadsTheWord := by
  intro s rt rs p q hrt hne hp hq
  obtain ⟨t, u, ht, hu, hgpr⟩ := exec_lwr_lwl hrt hne hp hq
  refine ⟨t, u, ht, hu, fun k hk => ?_⟩
  have hlt : (s.gpr rs).toNat < 2 ^ 32 := (s.gpr rs).isLt
  have hlast : (s.gpr rs + 3).toNat = ((s.gpr rs).toNat + 3) % 2 ^ 32 := BitVec.toNat_add _ _
  have hkth : (s.gpr rs + BitVec.ofNat 32 k).toNat = ((s.gpr rs).toNat + k) % 2 ^ 32 := by
    rw [BitVec.toNat_add, BitVec.toNat_ofNat, Nat.add_mod_mod]
  have hbyte : byteInWord (s.gpr rs + 3) = (byteInWord (s.gpr rs) + 3) % 4 := by
    rw [byteInWord_eq, byteInWord_eq]
    omega
  rw [← byteOf, hgpr, hbyte, byteOf_mergeLeft_mergeRight (byteInWord_lt _) hk, byteInWord_eq]
  split
  · next hfirst =>
    have hplace : (s.gpr rs).toNat % 4 + k = (s.gpr rs + BitVec.ofNat 32 k).toNat % 4 := by omega
    rw [hplace]
    exact read_sameWord hp.1 (by omega)
  · next hsecond =>
    have hplace : ((s.gpr rs).toNat % 4 + k) % 4 = (s.gpr rs + BitVec.ofNat 32 k).toNat % 4 := by omega
    rw [hplace]
    exact read_sameWord hq.1 (by omega)

/-! ### Stores to RAM (40 R164 to R173, 20 R87) -/

/-- Cells within one aligned word, written, leave their bytes at their addresses and every other byte as it was. -/
theorem wroteBytes_writeCells {s t : State} {start : Word} {n : Nat} {f : Nat → Byte}
    (hfit : start.toNat % 4 + n ≤ 4) (hmem : t.mem = s.mem.writeCells (cellsFrom start ((List.range n).map f))) :
    WroteBytes s start n f t := by
  unfold WroteBytes
  rw [hmem]
  refine ⟨fun k hk => ?_, fun a ha => Memory.read_writeCells_of_not_mem _ _ _ fun c hc hca => ?_⟩
  · exact List.map_inj_left.mp (bytesAt_writeCells s.mem f hfit) k (List.mem_range.mpr hk)
  · rw [cellsFrom_range, List.mem_map] at hc
    obtain ⟨k, hk, rfl⟩ := hc
    exact ha k (List.mem_range.mp hk) hca.symm

section Stores

variable {s : State} {ea : Word} {p : PhysAddr} {rt : Reg}

theorem complete_ramWrite (hk : kindAt s.cfg p.pa = some .ram) {start : Word} {n : Nat} {f : Nat → Byte}
    (hfit : start.toNat % 4 + n ≤ 4) :
    ∃ t, s.complete (s.writePhys p (cellsFrom start ((List.range n).map f))) = .next t ∧
      StoreOnly s p start n f t := by
  rw [writePhys_ram _ hk]
  refine ⟨_, rfl, wroteBytes_writeCells hfit rfl, noteStore_noted s p, ?_⟩
  exact ⟨⟨rfl, rfl, rfl⟩, fun _ => rfl, ⟨rfl, rfl⟩, ⟨rfl, rfl, rfl, rfl, rfl, rfl, rfl, rfl⟩,
    ⟨rfl, rfl, rfl⟩, rfl, rfl⟩

theorem storeFrom_ram (h : WritesRamAt s ea p) {n : Nat} (hn : n = 1 ∨ n = 2 ∨ n = 4)
    (ha : misaligned ea n = false) :
    ∃ t, s.storeFrom ea n rt = .next t ∧ StoreOnly s p p.pa n (byteOf (s.gpr rt)) t := by
  obtain ⟨hp, hk⟩ := h
  have hfit : p.pa.toNat % 4 + n ≤ 4 :=
    bytesOf_cells_fit hn (by rw [translate_mod_four hp, (misaligned_eq_false_iff ea n).mp ha])
  rw [storeFrom_translated hp ha]
  exact complete_ramWrite hk hfit

theorem storeLeft_ram (h : WritesRamAt s ea p) (v : Word) :
    ∃ t, s.storeCells ea (leftCells · v) = .next t ∧
      StoreOnly s p (wordOf p.pa) (byteInWord p.pa + 1) (fun k => byteOf v (3 - byteInWord p.pa + k)) t := by
  obtain ⟨hp, hk⟩ := h
  rw [storeCells_translated hp, leftCells_eq]
  exact complete_ramWrite hk (leftCells_fit p.pa)

theorem storeRight_ram (h : WritesRamAt s ea p) (v : Word) :
    ∃ t, s.storeCells ea (rightCells · v) = .next t ∧ StoreOnly s p p.pa (4 - byteInWord p.pa) (byteOf v) t := by
  obtain ⟨hp, hk⟩ := h
  rw [storeCells_translated hp, rightCells_eq]
  exact complete_ramWrite hk (rightCells_fit p.pa)

end Stores

/-- Settles O47: an aligned store is one write of the register's low bytes, within one word of RAM. -/
theorem alignedStoreResults : Obligations.AlignedStoreResults := by
  intro s rt rs imm p h
  exact ⟨storeFrom_ram h (by simp) (misaligned_one _),
    fun ha => storeFrom_ram h (by simp) ((misaligned_two_iff _).mpr ha),
    fun ha => storeFrom_ram h (by simp) ((misaligned_four_iff _).mpr ha)⟩

/-- Settles O48: SWL's bytes start at the word of the address, SWR's at the address. -/
theorem unalignedStoreResults : Obligations.UnalignedStoreResults := by
  intro s rt rs imm p b h hb
  have hmod : p.pa.toNat % 4 = b := by rw [translate_mod_four h.1, hb]
  have hbyte : byteInWord p.pa = b := by rw [byteInWord_eq, hmod]
  have hword : p.pa - BitVec.ofNat 32 b = wordOf p.pa := by rw [← hmod, sub_mod_four]
  rw [hword, ← hbyte]
  exact ⟨storeLeft_ram h (s.gpr rt), storeRight_ram h (s.gpr rt)⟩

end Sys2Proof.Machine
end

section
/-! SUPPORT. Proofs for 41_alu_immediate: an instruction that only writes a register, signed overflow as a fact about
exact results, and what OVERFLOW_MODE makes of it. -/

namespace Sys2Proof.Machine

/-! ### Writing a result back -/

/-- The result is written, and nothing else. -/
theorem writeBack_regOnly (s : State) (r : Reg) (v : Word) :
    ∃ t, s.writeBack r v = .next t ∧ RegOnly s r v t :=
  ⟨_, rfl, setGpr_advance_regOnly s r v⟩

/-! ### Immediates and comparisons (30 R124, 41 R184, R185) -/

theorem signedImm_toInt (imm : Imm16) : (signedImm imm).toInt = imm.toInt :=
  BitVec.toInt_signExtend_of_le (by decide)

theorem upperImm_eq (imm : Imm16) : upperImm imm = imm.zeroExtend 32 <<< 16 := by
  rw [upperImm, BitVec.append_def]
  simp [BitVec.shiftLeftZeroExtend_eq]

theorem boolWord_signedLess (a b : Word) : boolWord (signedLess a b) = if a.toInt < b.toInt then 1 else 0 := by
  simp [boolWord, signedLess]

theorem boolWord_unsignedLess (a b : Word) : boolWord (unsignedLess a b) = if a < b then 1 else 0 := by
  simp [boolWord, unsignedLess, BitVec.lt_def]

/-- Settles O19: each of the seven writes its result back unchecked. -/
theorem aluImmediateResults : Obligations.AluImmediateResults := by
  intro s rt rs imm
  rw [← signedImm_toInt, ← boolWord_signedLess, ← boolWord_unsignedLess, ← upperImm_eq]
  exact ⟨writeBack_regOnly s rt _, writeBack_regOnly s rt _, writeBack_regOnly s rt _, writeBack_regOnly s rt _,
    writeBack_regOnly s rt _, writeBack_regOnly s rt _, writeBack_regOnly s rt _⟩

/-! ### Signed overflow (41 R181, 42 R191) -/

/-- The signs tell whether the exact sum fits 32 bits. -/
theorem addOverflows_iff (a b : Word) :
    addOverflows a b = true ↔ a.toInt + b.toInt < -2 ^ 31 ∨ 2 ^ 31 ≤ a.toInt + b.toInt := by
  have hsigns : addOverflows a b = a.saddOverflow b := by
    rw [BitVec.saddOverflow_eq, addOverflows, bne_eq]
  simp [hsigns, BitVec.saddOverflow, or_comm]

/-- The signs tell whether the exact difference fits 32 bits. -/
theorem subOverflows_iff (a b : Word) :
    subOverflows a b = true ↔ a.toInt - b.toInt < -2 ^ 31 ∨ 2 ^ 31 ≤ a.toInt - b.toInt := by
  have hsigns : subOverflows a b = a.ssubOverflow b := by
    rw [BitVec.ssubOverflow_eq, subOverflows]
    cases a.msb <;> cases b.msb <;> simp
  simp [hsigns, BitVec.ssubOverflow, or_comm]

theorem ofInt_toInt_add (a b : Word) : BitVec.ofInt 32 (a.toInt + b.toInt) = a + b := by
  rw [BitVec.ofInt_add, BitVec.ofInt_toInt, BitVec.ofInt_toInt]

theorem ofInt_toInt_sub (a b : Word) : BitVec.ofInt 32 (a.toInt - b.toInt) = a - b := by
  rw [← BitVec.toInt_inj, BitVec.toInt_ofInt, BitVec.toInt_sub]

/-! ### Checked results -/

/-- Without overflow OVERFLOW_MODE has no say. -/
theorem writeChecked_fits (s : State) {b : Bool} (r : Reg) (v : Word) (hb : ¬b = true) :
    ∃ t, s.writeChecked b r v = .next t ∧ RegOnly s r v t := by
  rw [State.writeChecked, if_neg hb]
  exact writeBack_regOnly s r v

theorem writeChecked_sum (s : State) (r : Reg) {a b : Word} (hlo : -2 ^ 31 ≤ a.toInt + b.toInt)
    (hhi : a.toInt + b.toInt < 2 ^ 31) : ∃ t, s.writeChecked (addOverflows a b) r (a + b) = .next t ∧
      RegOnly s r (BitVec.ofInt 32 (a.toInt + b.toInt)) t := by
  rw [ofInt_toInt_add]
  exact writeChecked_fits s r _ (by rw [addOverflows_iff]; omega)

theorem writeChecked_difference (s : State) (r : Reg) {a b : Word} (hlo : -2 ^ 31 ≤ a.toInt - b.toInt)
    (hhi : a.toInt - b.toInt < 2 ^ 31) : ∃ t, s.writeChecked (subOverflows a b) r (a - b) = .next t ∧
      RegOnly s r (BitVec.ofInt 32 (a.toInt - b.toInt)) t := by
  rw [ofInt_toInt_sub]
  exact writeChecked_fits s r _ (by rw [subOverflows_iff]; omega)

/-- Settles O21: a result that fits is no overflow, and the wrapped result is the exact one. -/
theorem checkedArithmeticInRange : Obligations.CheckedArithmeticInRange := by
  intro s rd rs rt imm
  rw [← signedImm_toInt]
  exact ⟨writeChecked_sum s rt, writeChecked_sum s rd, writeChecked_difference s rd⟩

/-- What writeChecked makes of an overflow, mode by mode. -/
theorem writeChecked_overflow (s : State) {b : Bool} (r : Reg) (v : Word) (hb : b = true) :
    (s.cfg.overflowMode = .fault → s.writeChecked b r v = .fault .integerOverflow) ∧
      (s.cfg.overflowMode = .trap →
        ∃ t, s.writeChecked b r v = .next t ∧ TookTrap s s.cfg.overflowExcCode s.badVaddr t) ∧
      (s.cfg.overflowMode = .wrap → ∃ t, s.writeChecked b r v = .next t ∧ RegOnly s r v t) := by
  rw [State.writeChecked, if_pos hb]
  refine ⟨fun hm => ?_, fun hm => ?_, fun hm => ?_⟩ <;> rw [hm]
  · exact ⟨_, rfl, trapEntry_tookTrap s .overflow⟩
  · exact writeBack_regOnly s r v

/-- Settles O22: in each of the three cases the model sees the overflow. -/
theorem overflowIsHandledByMode : Obligations.OverflowIsHandledByMode := by
  rintro s rd rs rt imm i r v (⟨rfl, rfl, rfl, ho⟩ | ⟨rfl, rfl, rfl, ho⟩ | ⟨rfl, rfl, rfl, ho⟩)
  · rw [← signedImm_toInt] at ho
    exact writeChecked_overflow s r _ ((addOverflows_iff _ _).mpr ho)
  · exact writeChecked_overflow s r _ ((addOverflows_iff _ _).mpr ho)
  · exact writeChecked_overflow s r _ ((subOverflows_iff _ _).mpr ho)

end Sys2Proof.Machine
end

section
/-! SUPPORT. Proofs for 42_alu_register: three-operand results, shifts as divisions by a power of two, HI and LO as an
exact product or as quotient and remainder, and the divisions that have no result. -/

namespace Sys2Proof.Machine

/-! ### Three operands (42 R193, R195 to R201) -/

/-- Settles O20: each of the eight writes its result back unchecked. -/
theorem threeOperandResults : Obligations.ThreeOperandResults := by
  intro s rd rs rt
  rw [← boolWord_signedLess, ← boolWord_unsignedLess]
  exact ⟨writeBack_regOnly s rd _, writeBack_regOnly s rd _, writeBack_regOnly s rd _, writeBack_regOnly s rd _,
    writeBack_regOnly s rd _, writeBack_regOnly s rd _, writeBack_regOnly s rd _, writeBack_regOnly s rd _⟩

/-! ### Shifts (42 R202 to R208) -/

/-- An arithmetic right shift divides by the power of two, rounding down. -/
theorem ofInt_toInt_ediv_two_pow (a : Word) (n : Nat) : BitVec.ofInt 32 (a.toInt / 2 ^ n) = a.sshiftRight n := by
  rw [BitVec.sshiftRight_eq, Int.shiftRight_eq_div_pow, Nat.cast_pow, Nat.cast_ofNat]

/-- The low five bits of a register are the register modulo 32 (42 R202). -/
theorem shiftCount_eq (s : State) (rs : Reg) : s.shiftCount rs = (s.gpr rs).toNat % 32 := by
  rw [State.shiftCount, BitVec.extractLsb'_toNat, Nat.shiftRight_zero]

/-- Settles O23: SLL and SRL as the model shifts, SRA as a division. -/
theorem shiftByFieldResults : Obligations.ShiftByFieldResults := by
  intro s rd rt sa
  rw [ofInt_toInt_ediv_two_pow]
  exact ⟨writeBack_regOnly s rd _, writeBack_regOnly s rd _, writeBack_regOnly s rd _⟩

/-- Settles O24: as the shifts by the field, the count being the register modulo 32. -/
theorem shiftByRegisterResults : Obligations.ShiftByRegisterResults := by
  intro s rd rt rs
  rw [ofInt_toInt_ediv_two_pow, ← shiftCount_eq]
  exact ⟨writeBack_regOnly s rd _, writeBack_regOnly s rd _, writeBack_regOnly s rd _⟩

/-! ### Writing HI and LO (42 R209) -/

/-- HI and LO are written, and nothing else. -/
theorem writeHiLo_hiLoOnly (s : State) (hi lo : Word) : ∃ t, s.writeHiLo hi lo = .next t ∧ HiLoOnly s hi lo t := by
  refine ⟨_, rfl, rfl, rfl, ?_⟩
  simp [WentOn, SameRegs, SameControl, SameMemory, SameBytes, SameBlind, SameOutside, SameInputs,
    State.gpr_congr (s := s)]

/-- Settles O28: MFHI and MFLO write a register back, MTHI and MTLO one of HI and LO, keeping the other. -/
theorem hiLoMoves : Obligations.HiLoMoves := fun s r =>
  ⟨writeBack_regOnly s r s.hi, writeBack_regOnly s r s.lo, writeHiLo_hiLoOnly s (s.gpr r) s.lo,
    writeHiLo_hiLoOnly s s.hi (s.gpr r)⟩

/-! ### Multiply (42 R210, R211) -/

/-- HI and LO together are the product written. -/
theorem writeProduct_hiLoOnly (s : State) (p : BitVec 64) :
    ∃ t hi lo, s.writeProduct p = .next t ∧ HiLoOnly s hi lo t ∧ hi ++ lo = p := by
  obtain ⟨t, ht, honly⟩ := writeHiLo_hiLoOnly s (p.extractLsb' 32 32) (p.extractLsb' 0 32)
  have hjoin : p.extractLsb' 32 32 ++ p.extractLsb' 0 32 = p :=
    (BitVec.extractLsb'_append_extractLsb'_eq_extractLsb' rfl).trans BitVec.extractLsb'_eq_self
  exact ⟨t, _, _, ht, honly, hjoin⟩

/-- A signed product of words fits 64 bits. -/
theorem toInt_ofInt_mul (a b : Word) : (BitVec.ofInt 64 (a.toInt * b.toInt)).toInt = a.toInt * b.toInt := by
  have hlo : -2 ^ 62 ≤ a.toInt * b.toInt := BitVec.le_toInt_mul_toInt
  have hhi : a.toInt * b.toInt ≤ 2 ^ 62 := BitVec.toInt_mul_toInt_le
  exact BitVec.toInt_ofInt_eq_self (by decide) (by omega) (by omega)

/-- An unsigned product of words fits 64 bits. -/
theorem toNat_ofNat_mul (a b : Word) : (BitVec.ofNat 64 (a.toNat * b.toNat)).toNat = a.toNat * b.toNat := by
  rw [BitVec.toNat_ofNat, Nat.mod_eq_of_lt BitVec.toNat_mul_toNat_lt]

/-- Settles O25: the 64 bits written hold the exact product, signed and unsigned. -/
theorem multiplyGivesTheExactProduct : Obligations.MultiplyGivesTheExactProduct := by
  intro s rs rt
  constructor
  · obtain ⟨t, hi, lo, ht, honly, hp⟩ :=
      writeProduct_hiLoOnly s (BitVec.ofInt 64 ((s.gpr rs).toInt * (s.gpr rt).toInt))
    exact ⟨t, hi, lo, ht, honly, by rw [hp, toInt_ofInt_mul]⟩
  · obtain ⟨t, hi, lo, ht, honly, hp⟩ :=
      writeProduct_hiLoOnly s (BitVec.ofNat 64 ((s.gpr rs).toNat * (s.gpr rt).toNat))
    exact ⟨t, hi, lo, ht, honly, by rw [hp, toNat_ofNat_mul]⟩

/-! ### Divide (42 R212, R213) -/

theorem divIsCorner_iff (n d : Word) : divIsCorner n d = true ↔ d = 0 ∨ n = 0x80000000 ∧ d = 0xFFFFFFFF := by
  simp [divIsCorner]

section Divide

variable {s : State} {rs rt : Reg}

theorem exec_div_corner (h : divIsCorner (s.gpr rs) (s.gpr rt) = true) :
    exec (.div rs rt) s = s.writeDivCorner .div (s.gpr rs) (s.gpr rt) := if_pos h

/-- Outside the corners DIV writes the signed remainder and quotient of words. -/
theorem exec_div_of_not_corner (h : ¬divIsCorner (s.gpr rs) (s.gpr rt) = true) :
    exec (.div rs rt) s = s.writeHiLo ((s.gpr rs).srem (s.gpr rt)) ((s.gpr rs).sdiv (s.gpr rt)) := by
  have hrem : BitVec.ofInt 32 ((s.gpr rs).toInt.tmod (s.gpr rt).toInt) = (s.gpr rs).srem (s.gpr rt) := by
    rw [← BitVec.toInt_srem, BitVec.ofInt_toInt]
  have hquot : BitVec.ofInt 32 ((s.gpr rs).toInt.tdiv (s.gpr rt).toInt) = (s.gpr rs).sdiv (s.gpr rt) := by
    rw [← BitVec.toInt_inj, BitVec.toInt_ofInt, BitVec.toInt_sdiv]
  rw [← hrem, ← hquot]
  exact if_neg h

theorem exec_divu_corner (h : s.gpr rt = 0) :
    exec (.divu rs rt) s = s.writeDivCorner .divu (s.gpr rs) (s.gpr rt) := if_pos (beq_iff_eq.mpr h)

/-- Outside the corner DIVU writes the unsigned remainder and quotient of words. -/
theorem exec_divu_of_not_corner (h : s.gpr rt ≠ 0) :
    exec (.divu rs rt) s = s.writeHiLo (s.gpr rs % s.gpr rt) (s.gpr rs / s.gpr rt) := by
  rw [BitVec.umod_def, BitVec.udiv_def]
  exact if_neg (mt beq_iff_eq.mp h)

end Divide

/-- Outside -2^31 by -1 the quotient of words is the exact one, rounded toward zero. -/
theorem toInt_sdiv_of_not_corner {n d : Word} (h : ¬(n = 0x80000000 ∧ d = 0xFFFFFFFF)) :
    (n.sdiv d).toInt = n.toInt.tdiv d.toInt :=
  BitVec.toInt_sdiv_of_ne_or_ne n d (not_and_or.mp h)

/-- Settles O26: the model divides words, and outside the corners word division is exact. -/
theorem divideGivesQuotientAndRemainder : Obligations.DivideGivesQuotientAndRemainder := by
  intro s rs rt hd
  constructor
  · intro hc
    have hquot := toInt_sdiv_of_not_corner hc
    rw [exec_div_of_not_corner (by rw [divIsCorner_iff]; exact not_or.mpr ⟨hd, hc⟩)]
    obtain ⟨t, ht, honly⟩ := writeHiLo_hiLoOnly s ((s.gpr rs).srem (s.gpr rt)) ((s.gpr rs).sdiv (s.gpr rt))
    exact ⟨t, _, _, ht, honly, hquot, by rw [hquot, BitVec.toInt_srem, Int.tmod_def]⟩
  · rw [exec_divu_of_not_corner hd]
    obtain ⟨t, ht, honly⟩ := writeHiLo_hiLoOnly s (s.gpr rs % s.gpr rt) (s.gpr rs / s.gpr rt)
    have hpos : 0 < (s.gpr rt).toNat := Nat.pos_of_ne_zero fun h0 => hd (BitVec.eq_of_toNat_eq h0)
    refine ⟨t, _, _, ht, honly, ?_, ?_⟩
    · rw [BitVec.toNat_udiv, BitVec.toNat_umod, Nat.div_add_mod]
    · rw [BitVec.toNat_umod]
      exact Nat.mod_lt _ hpos

/-! ### Divisions without a result (42 R212, R213; log 8, log 10) -/

/-- A corner goes on with some HI and LO, and takes one free value. -/
theorem writeDivCorner_next (s : State) (op : DivOp) (n d : Word) :
    ∃ t, s.writeDivCorner op n d = .next t ∧ WentOn s t ∧ SameRegs s t ∧ SameControl s t ∧ SameBytes s t ∧
      SameBlind s t ∧ SameInputs s t ∧ t.io = s.io ∧ t.draws = s.draws + 1 := by
  obtain ⟨t, ht, -, -, hon, hregs, hcontrol, hbytes, hblind, hinputs, hio, hdraws⟩ :=
    writeHiLo_hiLoOnly { s with draws := s.draws + 1 } (Config.divCornerHi op n d s.draws)
      (Config.divCornerLo op n d s.draws)
  exact ⟨t, ht, hon, hregs, hcontrol, hbytes, hblind, hinputs, hio, hdraws⟩

/-- Settles O27: DIV and DIVU meet their corners by the same operation, which raises nothing. -/
theorem divideCornersGoOn : Obligations.DivideCornersGoOn := by
  rintro s rs rt i (⟨rfl, hc⟩ | ⟨rfl, hd⟩)
  · rw [exec_div_corner ((divIsCorner_iff _ _).mpr hc)]
    exact writeDivCorner_next s .div _ _
  · rw [exec_divu_corner hd]
    exact writeDivCorner_next s .divu _ _

end Sys2Proof.Machine
end

section
/-! SUPPORT. Proofs for 43_jump_branch: what a jump or branch that completes writes, where the targets lie, and the stop in
a delay slot. -/

namespace Sys2Proof.Machine

/-! ### Jumps (43 R219, R234, R237) -/

/-- In a delay slot a jump or branch stops before its target is looked at. -/
theorem jump_in_delaySlot {s : State} (target : Option Word) (link : Option (Reg × Word)) (hd : s.ds = true) :
    s.jump target link = .fault .branchInDelaySlot := if_pos hd

theorem branch_in_delaySlot {s : State} (test : Bool) (imm : Imm16) (link : Option Reg) (hd : s.ds = true) :
    s.branch test imm link = .fault .branchInDelaySlot := jump_in_delaySlot _ _ hd

theorem advanceTo_slotOnly (s : State) (target : Option Word) :
    SlotOnly s (target.getD (s.npc + 4#32)) (s.advanceTo target) := by
  simp [SlotOnly, WentToSlot, SameRegs, SameHiLo, SameControl, SameMemory, SameBytes, SameBlind, SameOutside, SameInputs]

theorem setGpr_advanceTo_linkOnly (s : State) (target : Option Word) (r : Reg) (v : Word) :
    LinkOnly s (target.getD (s.npc + 4#32)) r v ((s.setGpr r v).advanceTo target) := by
  have hwrote : WroteReg s r v ((s.setGpr r v).advanceTo target) := fun q => State.gpr_setGpr s r q v
  simp [LinkOnly, hwrote, WentToSlot, SameHiLo, SameControl, SameMemory, SameBytes, SameBlind, SameOutside, SameInputs]

section Jumps

variable {s : State} {target : Option Word}

/-- Outside a delay slot a jump that does not link completes, to its target or else on. -/
theorem jump_slotOnly (hd : s.ds = false) (ha : wordAligned (target.getD 0#32)) :
    ∃ t, s.jump target none = .next t ∧ SlotOnly s (target.getD (s.npc + 4#32)) t := by
  have ha : (target.getD 0#32).extractLsb' 0 2 = 0#2 := ha
  exact ⟨s.advanceTo target, by simp [State.jump, hd, ha], advanceTo_slotOnly s target⟩

/-- Outside a delay slot a jump that links completes, to its target or else on. -/
theorem jump_linkOnly (r : Reg) (v : Word) (hd : s.ds = false) (ha : wordAligned (target.getD 0#32)) :
    ∃ t, s.jump target (some (r, v)) = .next t ∧ LinkOnly s (target.getD (s.npc + 4#32)) r v t := by
  have ha : (target.getD 0#32).extractLsb' 0 2 = 0#2 := ha
  exact ⟨(s.setGpr r v).advanceTo target, by simp [State.jump, hd, ha], setGpr_advanceTo_linkOnly s target r v⟩

end Jumps

/-- Settles O35: each of the twelve is a jump of the model, and the delay slot is the first thing a jump checks. -/
theorem jumpInDelaySlotStops : Obligations.JumpInDelaySlotStops := by
  intro s i hd hi
  cases i with
  | j | jal | jr | jalr =>
    simp only [exec]
    exact jump_in_delaySlot _ _ hd
  | beq | bne | blez | bgtz | bltz | bgez | bltzal | bgezal =>
    simp only [exec]
    exact branch_in_delaySlot _ _ _ hd
  | _ => cases hi

/-- Settles O30: a register's target is read before the link is written. -/
theorem registerJumpResults : Obligations.RegisterJumpResults :=
  fun s rd rs hd ha =>
    ⟨jump_slotOnly (target := some (s.gpr rs)) hd ha, jump_linkOnly (target := some (s.gpr rs)) rd s.linkValue hd ha⟩

/-! ### Jumps within a region (43 R221) -/

theorem regionTarget_aligned (s : State) (index : Index26) : wordAligned (s.regionTarget index) := by
  unfold wordAligned State.regionTarget
  rw [extractLsb'_append_low _ _ 0 2 (by decide), extractLsb'_append_low _ _ 0 2 (by decide)]
  rfl

/-- The region is the top four bits of the delay slot's address; below them stands 4 times the index. -/
theorem regionTarget_toNat (s : State) (index : Index26) :
    (s.regionTarget index).toNat = (s.pc + 4#32).toNat / 2 ^ 28 * 2 ^ 28 + index.toNat * 4 := by
  have hoffset : (index ++ 0#2).toNat = index.toNat * 4 := by
    rw [BitVec.toNat_append, Nat.shiftLeft_eq, BitVec.toNat_zero, Nat.or_zero]
  have hregion : ((s.pc + 4#32).extractLsb' 28 4).toNat = (s.pc + 4#32).toNat / 2 ^ 28 := by
    rw [BitVec.extractLsb'_toNat, Nat.shiftRight_eq_div_pow]
    omega
  rw [State.regionTarget, BitVec.toNat_append, ← Nat.shiftLeft_add_eq_or_of_lt (BitVec.isLt _), Nat.shiftLeft_eq,
    hoffset, hregion]

/-- Settles O29: the address the statement names is the model's target, which is a multiple of 4. -/
theorem regionJumpResults : Obligations.RegionJumpResults := by
  intro s index target hd htarget
  obtain rfl : target = s.regionTarget index := BitVec.eq_of_toNat_eq (htarget.trans (regionTarget_toNat s index).symm)
  have ha := regionTarget_aligned s index
  exact ⟨jump_slotOnly (target := some _) hd ha, jump_linkOnly (target := some _) 31#5 s.linkValue hd ha⟩

/-! ### Branches (43 R220, R225) -/

/-- An offset scaled by at least 4 keeps the alignment of the pc. -/
theorem branchTarget_aligned {s : State} (imm : Imm16) (hpc : wordAligned s.pc) (hshift : 2 ≤ s.cfg.branchOffsetShift) :
    wordAligned (s.branchTarget imm) := by
  obtain ⟨k, hk⟩ := Nat.exists_eq_add_of_le hshift
  have hoffset : (signedImm imm <<< s.cfg.branchOffsetShift).toNat % 4 = 0 := by
    rw [hk, BitVec.toNat_shiftLeft, Nat.shiftLeft_eq, pow_add, Nat.mul_left_comm]
    omega
  have hslot := (wordAligned_iff _).mp (wordAligned_add_four hpc)
  rw [wordAligned_iff, State.branchTarget, BitVec.toNat_add]
  omega

/-- A branch completes with what its jump says of the place gone to: the target if the test holds, else on. -/
theorem branch_completes {s : State} {imm : Imm16} {taken : Prop} {test : Bool} {link : Option Reg}
    {P : Word → State → Prop}
    (hjump : ∀ target : Option Word, wordAligned (target.getD 0#32) →
      ∃ t, s.jump target (link.map fun r => (r, s.linkValue)) = .next t ∧ P (target.getD (s.npc + 4#32)) t)
    (ha : taken → wordAligned (s.branchTarget imm) ∨ wordAligned s.pc ∧ 2 ≤ s.cfg.branchOffsetShift)
    (htest : test = true ↔ taken) :
    ∃ t, s.branch test imm link = .next t ∧ (taken → P (s.branchTarget imm) t) ∧ (¬taken → P (s.npc + 4#32) t) := by
  cases test with
  | true =>
    have htaken : taken := htest.mp rfl
    have haligned : wordAligned (s.branchTarget imm) :=
      (ha htaken).elim id fun ⟨hpc, hshift⟩ => branchTarget_aligned imm hpc hshift
    obtain ⟨t, ht, hP⟩ := hjump (some (s.branchTarget imm)) haligned
    exact ⟨t, ht, fun _ => hP, fun hn => absurd htaken hn⟩
  | false =>
    have hnot : ¬taken := fun h => absurd (htest.mpr h) Bool.false_ne_true
    obtain ⟨t, ht, hP⟩ := hjump none rfl
    exact ⟨t, ht, fun h => absurd h hnot, fun _ => hP⟩

/-- Settles O32: in each case the model's test of the registers is the condition stated. -/
theorem branchResults : Obligations.BranchResults := by
  rintro s rs rt imm i taken _ hd rfl hi ha
  have completes {test : Bool} (htest : test = true ↔ taken) :=
    branch_completes (link := none) (imm := imm) (fun _ => jump_slotOnly hd) ha htest
  obtain ⟨rfl, h⟩ | ⟨rfl, h⟩ | ⟨rfl, h⟩ | ⟨rfl, h⟩ | ⟨rfl, h⟩ | ⟨rfl, h⟩ := hi
  · exact completes (beq_iff_eq.trans h.symm)
  · exact completes (bne_iff_ne.trans h.symm)
  · exact completes ((isNegative_or_zero_iff _).trans h.symm)
  · exact completes ((not_isNegative_and_nonzero_iff _).trans h.symm)
  · exact completes ((isNegative_iff _).trans h.symm)
  · exact completes ((not_isNegative_iff _).trans h.symm)

/-- Settles O33: as for O32, with a jump that links. -/
theorem linkingBranchResults : Obligations.LinkingBranchResults := by
  rintro s rs imm i taken _ hd rfl hi ha
  have completes {test : Bool} (htest : test = true ↔ taken) :=
    branch_completes (link := some 31#5) (imm := imm) (P := fun target => LinkOnly s target 31#5 s.linkValue)
      (fun _ => jump_linkOnly 31#5 s.linkValue hd) ha htest
  obtain ⟨rfl, h⟩ | ⟨rfl, h⟩ := hi
  · exact completes ((isNegative_iff _).trans h.symm)
  · exact completes ((not_isNegative_iff _).trans h.symm)

end Sys2Proof.Machine
end

section
/-! SUPPORT. Proofs for 44_exception_instructions: SYSCALL and BREAK raise their exceptions, and an instruction that
raises enters the trap. -/

namespace Sys2Proof.Machine

/-- An instruction whose body raises an exception completes by taking it from where it began (60 R270). -/
theorem exec_tookTrap_of_raise {s : State} {i : Instr} {e : Exc} (hi : exec i s = s.complete (.raise e)) :
    ∃ t, exec i s = .next t ∧ TookTrap s (excCode s.cfg e) (badVaddrAfter s.badVaddr e) t :=
  ⟨s.trapEntry e, hi, trapEntry_tookTrap s e⟩

/-- The body of SYSCALL reads neither its code nor the state (44 R243). -/
theorem exec_syscall (code : Code20) (s : State) : exec (.syscall code) s = s.complete (.raise .syscall) := rfl

/-- The body of BREAK reads neither its code nor the state (44 R244). -/
theorem exec_brk (code : Code20) (s : State) : exec (.brk code) s = s.complete (.raise .breakpoint) := rfl

/-- Settles O14: both raise unconditionally, and neither exception touches BadVaddr. -/
theorem syscallAndBreakTrap : Obligations.SyscallAndBreakTrap :=
  fun s code => ⟨exec_tookTrap_of_raise (exec_syscall code s), exec_tookTrap_of_raise (exec_brk code s)⟩

end Sys2Proof.Machine
end

section
/-! SUPPORT. Proofs for 45_control: the words of SR and Cause, MFC0 as a register write, and the instructions that write
control registers or the TLB alone. -/

namespace Sys2Proof.Machine

/-! ### Control registers as words (10 R38, R40) -/

/-- The enables stand at bits 4, 2 and 0, so their weights add up to the word. -/
theorem StatusReg.word_eq (r : StatusReg) :
    r.word = (if r.ieo then 16 else 0) + (if r.iep then 4 else 0) + if r.iec then 1 else 0 := by
  obtain ⟨_ | _, _ | _, _ | _⟩ := r
  all_goals rfl

/-- BD stands at bit 31, above ExcCode, which starts at bit 2. -/
theorem CauseReg.word_eq (c : CauseReg) :
    c.word = (if c.bd then 0x80000000 else 0) + c.excCode.zeroExtend 32 <<< 2 := by
  obtain ⟨bd, code⟩ := c
  have hcode : (0#24 ++ (code ++ 0#2) : BitVec 31).toNat = code.toNat * 4 := by
    rw [BitVec.toNat_append, BitVec.toNat_append, BitVec.toNat_zero, BitVec.toNat_zero, Nat.zero_shiftLeft,
      Nat.zero_or, Nat.or_zero, Nat.shiftLeft_eq]
  have hshift : (code.zeroExtend 32 <<< 2).toNat = code.toNat * 4 := by
    rw [BitVec.toNat_shiftLeft, BitVec.toNat_setWidth, Nat.shiftLeft_eq]
    omega
  refine BitVec.eq_of_toNat_eq ?_
  rw [CauseReg.word, BitVec.toNat_append, ← Nat.shiftLeft_add_eq_or_of_lt (BitVec.isLt _), hcode, BitVec.toNat_add,
    hshift]
  cases bd with
  | false => simp [bit]; omega
  | true => simp [bit]; omega

/-! ### MFC0 (45 R246, R247) -/

/-- Where reading the control register leaves the state as it was, MFC0 writes its value to rt and nothing else. -/
theorem exec_mfc0_regOnly {s : State} {rt rd : Reg} {v : Word} (hread : s.readControl rd = .ok v s) :
    ∃ t, exec (.mfc0 rt rd) s = .next t ∧ RegOnly s rt v t := by
  have hexec : exec (.mfc0 rt rd) s = .next (s.setGpr rt v).advance := by
    simp only [exec, execMfc0, hread, Res.intoGpr, State.complete, id_eq]
  exact ⟨_, hexec, setGpr_advance_regOnly s rt v⟩

/-- Settles O37: reading any register of the MFC0 column but Index leaves the state as it was. -/
theorem readControlResults : Obligations.ReadControlResults := by
  intro s rt
  rw [← StatusReg.word_eq, ← CauseReg.word_eq]
  exact ⟨exec_mfc0_regOnly rfl, exec_mfc0_regOnly rfl, exec_mfc0_regOnly rfl, exec_mfc0_regOnly rfl,
    exec_mfc0_regOnly rfl, exec_mfc0_regOnly rfl⟩

/-! ### Writing control registers and the TLB (45 R248 to R251) -/

/-- The instruction went on and left the general registers, HI, LO, memory and everything outside unchanged. -/
def ControlFrame (s t : State) : Prop := WentOn s t ∧ SameRegs s t ∧ SameHiLo s t ∧ SameMemory s t

/-- Going on after any change of the fields that MTC0, TLBR, TLBWI and RFE write. -/
theorem controlFrame_advance (s : State) (index : BitVec 6) (entryLo : EntryLo) (entryHi : Page) (sr : StatusReg)
    (tlb : Vector TlbEntry 64) :
    ControlFrame s (State.advance
      { s with index := index, entryLo := entryLo, entryHi := entryHi, sr := sr, tlb := tlb }) := by
  refine ⟨⟨rfl, rfl, rfl⟩, State.gpr_congr rfl, ⟨rfl, rfl⟩, ?_⟩
  simp [SameMemory, SameBytes, SameBlind, SameOutside, SameInputs]

/-- MTC0 that writes its control register goes on from what was written. -/
theorem exec_mtc0_of_writeControl {s u : State} {rt rd : Reg} (hwrite : s.writeControl rd (s.gpr rt) = .ok () u) :
    exec (.mtc0 rt rd) s = .next u.advance := by
  simp only [exec, execMtc0, hwrite, State.complete]

theorem SameControl.refl (s : State) : SameControl s s := ⟨rfl, rfl, rfl, rfl, rfl, rfl, rfl, rfl⟩

/-- Settles O39: each of the four is one arm of `writeControl`, which updates the one field. -/
theorem writeControlResults : Obligations.WriteControlResults := by
  intro s rt
  refine ⟨?index, ?entryLo, ?entryHi, ?sr⟩
  case index =>
    exact ⟨_, exec_mtc0_of_writeControl rfl, rfl, SameControl.refl _, controlFrame_advance s _ _ _ _ _⟩
  case entryLo =>
    exact ⟨_, exec_mtc0_of_writeControl rfl, rfl, rfl, SameControl.refl _, controlFrame_advance s _ _ _ _ _⟩
  case entryHi =>
    exact ⟨_, exec_mtc0_of_writeControl rfl, rfl, SameControl.refl _, controlFrame_advance s _ _ _ _ _⟩
  case sr =>
    exact ⟨_, exec_mtc0_of_writeControl rfl, rfl, rfl, rfl, SameControl.refl _, controlFrame_advance s _ _ _ _ _⟩

theorem exec_tlbr (s : State) : exec .tlbr s = .next s.tlbRead.advance := rfl

theorem exec_tlbwi (s : State) : exec .tlbwi s = .next s.tlbWrite.advance := rfl

theorem exec_rfe (s : State) : exec .rfe s = .next s.returnFromException.advance := rfl

/-- Every slot of the TLB after TLBWI, by its number. -/
theorem tlbWrite_getElem (s : State) (k : Nat) (hk : k < 64) :
    s.tlbWrite.tlb[k] = if k = s.index.toNat then ⟨s.entryHi, s.entryLo.pfn, s.entryLo.v⟩ else s.tlb[k] := by
  simp only [State.tlbWrite_tlb, Vector.getElem_set, eq_comm (a := k)]

/-- Settles O41: `tlbRead` writes EntryLo and EntryHi, `tlbWrite` the TLB, and neither another field. -/
theorem tlbReadAndWriteResults : Obligations.TlbReadAndWriteResults := by
  intro s
  constructor
  · exact ⟨_, exec_tlbr s, rfl, rfl, rfl, SameControl.refl _, controlFrame_advance s _ _ _ _ _⟩
  · exact ⟨_, exec_tlbwi s, tlbWrite_getElem s, SameControl.refl _, controlFrame_advance s _ _ _ _ _⟩

/-- Settles O16: the pop of the status stack is all that RFE does before it goes on. -/
theorem rfePopsTheStack : Obligations.RfePopsTheStack := by
  intro s
  obtain ⟨hwentOn, hregs, hhiLo, hmemory⟩ : ControlFrame s s.returnFromException.advance :=
    controlFrame_advance s _ _ _ _ _
  exact ⟨_, exec_rfe s, rfl, hwentOn, hregs, hhiLo, rfl, rfl, rfl, rfl, rfl, rfl, rfl, hmemory⟩

end Sys2Proof.Machine
end

section
/-! SUPPORT. Proofs for 60_exceptions: which event a step takes by the levels of its boundary, the traps of the step, and
the return sequence, composed from the rules of its three instructions. -/

namespace Sys2Proof.Machine

/-! ### The event of a step (60 R268) -/

section Events

variable {s : State}

/-- An enabled interrupt comes before the instruction. -/
theorem step_interrupt (hreset : s.pinsNow.reset = false) (hirq : s.pinsNow.irq = true) (hiec : s.sr.iec = true) :
    step s = .next (s.popPins.trapEntry .interrupt) := by
  simp [step, State.cycle, hreset, hirq, hiec]

/-- With neither a reset nor an enabled interrupt the step goes on to the fetch. -/
theorem step_eq_fetchAndRun (hreset : s.pinsNow.reset = false) (hirq : (s.pinsNow.irq && s.sr.iec) = false) :
    step s = s.popPins.fetchAndRun := by
  simp [step, State.cycle, hreset, hirq]

/-- A fetch that misses enters the trap with the address of the instruction (60 R262). -/
theorem fetchAndRun_miss (hmiss : s.translate s.pc = none) :
    s.fetchAndRun = .next (s.trapEntry (.tlbMiss s.pc)) := by
  simp only [State.fetchAndRun, State.fetch, hmiss]

/-- While IEc is 0, the step depends on the levels only through reset and those still to come. -/
theorem step_congr_of_disabled {t : State} (hiec : s.sr.iec = false) (hiec' : t.sr.iec = false)
    (hreset : t.pinsNow.reset = s.pinsNow.reset) (hpop : t.popPins = s.popPins) : step s = step t := by
  simp [step, State.cycle, hiec, hiec', hreset, hpop]

/-- The boundary's levels apart, a trap after they are used up is a trap from s. -/
theorem popPins_trapEntry_tookTrap (s : State) (e : Exc) :
    TookTrap s (excCode s.cfg e) (badVaddrAfter s.badVaddr e) { s.popPins.trapEntry e with pins := s.pins } :=
  trapEntry_tookTrap s e

/-- Where no level is listed the lines are held, and a boundary uses nothing up (60 R265). -/
theorem popPins_eq_self (hpins : s.pins = []) : s.popPins = s := by
  cases s
  cases hpins
  rfl

theorem pinsNow_eq_heldPins (hpins : s.pins = []) : s.pinsNow = s.heldPins := by
  simp [State.pinsNow, hpins]

/-- A held interrupt line is taken at any boundary at which IEc is 1, and stays held (60 R265). -/
theorem step_interrupt_of_held (hpins : s.pins = []) (hheld : s.heldPins = ⟨false, true⟩) (hiec : s.sr.iec = true) :
    step s = .next (s.trapEntry .interrupt) := by
  have hnow : s.pinsNow = ⟨false, true⟩ := (pinsNow_eq_heldPins hpins).trans hheld
  have hstep := step_interrupt (s := s) (by rw [hnow]) (by rw [hnow]) hiec
  rwa [popPins_eq_self hpins] at hstep

end Events

/-- Settles O7: IEc gates the interrupt, and a held line is up again when RFE has restored IEc. -/
theorem interruptNeedsAnEnable : Obligations.InterruptNeedsAnEnable := by
  refine ⟨fun s hreset hirq hiec => ?taken, fun s hiec => ?masked, fun s t hpins hheld _ hnpc hiep ht => ?held⟩
  case taken => exact ⟨_, step_interrupt hreset hirq hiec, popPins_trapEntry_tookTrap s .interrupt⟩
  case masked => exact step_congr_of_disabled hiec hiec rfl rfl
  case held =>
    obtain rfl : s.returnFromException.advance = t := Host.Outcome.next.inj ht
    exact ⟨_, step_interrupt_of_held hpins hheld hiep, trapEntry_tookTrap _ .interrupt, hnpc⟩

/-- Settles O9: the step goes on to the fetch, which misses. -/
theorem fetchMissIsTaken : Obligations.FetchMissIsTaken := by
  intro s hreset hirq hmiss
  have hfetch : s.popPins.fetchAndRun = .next (s.popPins.trapEntry (.tlbMiss s.pc)) :=
    fetchAndRun_miss (s := s.popPins) hmiss
  exact ⟨_, (step_eq_fetchAndRun hreset hirq).trans hfetch, popPins_trapEntry_tookTrap s (.tlbMiss s.pc)⟩

/-! ### The return sequence (60 R273) -/

theorem SameHiLo.trans {s t u : State} (h : SameHiLo s t) (h' : SameHiLo t u) : SameHiLo s u :=
  ⟨h'.1.trans h.1, h'.2.trans h.2⟩

theorem SameMemory.trans {s t u : State} (h : SameMemory s t) (h' : SameMemory t u) : SameMemory s u := by
  obtain ⟨hbytes, ⟨hstored, huncached⟩, ⟨hcfg, hpins, hheld⟩, hio, hdraws⟩ := h
  obtain ⟨hbytes', ⟨hstored', huncached'⟩, ⟨hcfg', hpins', hheld'⟩, hio', hdraws'⟩ := h'
  exact ⟨fun a => (hbytes' a).trans (hbytes a), ⟨hstored'.trans hstored, huncached'.trans huncached⟩,
    ⟨hcfg'.trans hcfg, hpins'.trans hpins, hheld'.trans hheld⟩, hio'.trans hio, hdraws'.trans hdraws⟩

/-- What no instruction of the return sequence touches. -/
def ReturnFrame (s t : State) : Prop := SameHiLo s t ∧ t.epc = s.epc ∧ t.cause = s.cause ∧ SameMemory s t

theorem ReturnFrame.trans {s t u : State} (h : ReturnFrame s t) (h' : ReturnFrame t u) : ReturnFrame s u := by
  obtain ⟨hhiLo, hepc, hcause, hmem⟩ := h
  obtain ⟨hhiLo', hepc', hcause', hmem'⟩ := h'
  exact ⟨hhiLo.trans hhiLo', hepc'.trans hepc, hcause'.trans hcause, hmem.trans hmem'⟩

theorem RegOnly.returnFrame {s t : State} {r : Reg} {v : Word} (h : RegOnly s r v t) :
    ReturnFrame s t ∧ t.sr = s.sr := by
  obtain ⟨-, -, hhiLo, ⟨-, -, -, -, hsr, hcause, hepc, -⟩, hmem⟩ := h
  exact ⟨⟨hhiLo, hepc, hcause, hmem⟩, hsr⟩

theorem SlotOnly.returnFrame {s t : State} {target : Word} (h : SlotOnly s target t) :
    ReturnFrame s t ∧ t.sr = s.sr := by
  obtain ⟨-, -, hhiLo, ⟨-, -, -, -, hsr, hcause, hepc, -⟩, hmem⟩ := h
  exact ⟨⟨hhiLo, hepc, hcause, hmem⟩, hsr⟩

theorem returnFromException_advance_returnFrame (s : State) : ReturnFrame s s.returnFromException.advance := by
  obtain ⟨-, -, hhiLo, hmem⟩ : ControlFrame s s.returnFromException.advance := controlFrame_advance s _ _ _ _ _
  exact ⟨hhiLo, rfl, rfl, hmem⟩

/-- MFC0 r, EPC; JR r: control is in the slot of a jump to EPC, and only r has changed. -/
theorem exec_mfc0_epc_jr {s : State} {r : Reg} (hr : r ≠ 0) (hepc : wordAligned s.epc) :
    ∃ t u, exec (.mfc0 r 14) s = .next t ∧ exec (.jr r) t = .next u ∧ u.npc = s.epc ∧ u.sr = s.sr ∧
      (∀ q, q ≠ r → u.gpr q = s.gpr q) ∧ ReturnFrame s u := by
  obtain ⟨t, hmfc0, hwrote⟩ : ∃ t, exec (.mfc0 r 14) s = .next t ∧ RegOnly s r s.epc t := exec_mfc0_regOnly rfl
  have hgpr : t.gpr r = s.epc := hwrote.gpr_self hr
  have hds : t.ds = false := by
    obtain ⟨-, ⟨-, -, hds⟩, -⟩ := hwrote
    exact hds
  obtain ⟨u, hjr, hslot⟩ : ∃ u, exec (.jr r) t = .next u ∧ SlotOnly t (t.gpr r) u :=
    jump_slotOnly (target := some (t.gpr r)) hds (hgpr ▸ hepc)
  obtain ⟨hframe, hsr⟩ := hwrote.returnFrame
  obtain ⟨hframe', hsr'⟩ := hslot.returnFrame
  obtain ⟨⟨-, hnpc, -⟩, hregs, -⟩ := hslot
  exact ⟨t, u, hmfc0, hjr, hnpc.trans hgpr, hsr'.trans hsr, fun q hq => (hregs q).trans (hwrote.gpr_other hq),
    hframe.trans hframe'⟩

/-- Settles O18: MFC0 and JR send control to EPC after the slot, and the RFE in the slot pops the stack. -/
theorem returnSequenceResumesAtEpc : Obligations.ReturnSequenceResumesAtEpc := by
  intro s r hr _ hepc
  obtain ⟨t, u, hmfc0, hjr, hnpc, hsr, hregs, hframe⟩ := exec_mfc0_epc_jr hr hepc
  obtain ⟨hhiLo, hepc', hcause, hmem⟩ := hframe.trans (returnFromException_advance_returnFrame u)
  exact ⟨t, u, u.returnFromException.advance, hmfc0, hjr, exec_rfe u, hnpc, congrArg (· + 4#32) hnpc, rfl,
    congrArg StatusReg.iep hsr, congrArg StatusReg.ieo hsr, hregs, hhiLo, hepc', hcause, hmem⟩

end Sys2Proof.Machine
end

section
/-! SUPPORT. Proofs for 70_reset_and_hazards: the reset event of a step. -/

namespace Sys2Proof.Machine

/-- Reset comes before an interrupt and before the instruction (60 R268): it is the whole of the step, whatever IRQ and
the other state say. -/
theorem step_reset {s : State} (hreset : s.pinsNow.reset = true) : step s = .next s.popPins.resetEvent := by
  simp [step, State.cycle, hreset]

/-- Settles O8: the step is the reset event, whose field lemmas give the four items and, with those of `popPins`, the
frame. -/
theorem resetSignalSetsFourItems : Obligations.ResetSignalSetsFourItems := by
  intro s hreset
  have hregs : SameRegs s s.popPins.resetEvent := fun r => by
    rw [State.resetEvent_gpr, State.popPins_gpr]
  have hhiLo : SameHiLo s s.popPins.resetEvent := ⟨by simp, by simp⟩
  have hbytes : SameBytes s s.popPins.resetEvent := fun a => by
    rw [State.resetEvent_mem, State.popPins_mem]
  refine ⟨_, step_reset hreset, State.resetEvent_pc _, State.resetEvent_npc _, State.resetEvent_ds _, ?_⟩
  simp [hregs, hhiLo, hbytes]

end Sys2Proof.Machine
end

section
/-! SUPPORT. Proofs for 95_test_vectors L2.9: words the spec writes out. -/

namespace Sys2Proof

theorem decode_of_encode_eq {w : Word} {i : Instr} (h : encode i = w) : decode w = .ok i :=
  h ▸ decode_encode i

/-- Settles O4: each of the ten words is the one the encoder writes for the instruction named. Of the two reserved words,
one is an ADD whose shamt is 1 (30 R135), the other a REGIMM word whose rt is 2 (30 R129). -/
theorem specWordsDecode : Obligations.SpecWordsDecode := by
  have hadd : decode 0x00851060#32 = .error .fieldNotZero := (decode_of_special (by decide)).trans (by decide)
  have hregimm : decode 0x04020000#32 = .error .reservedRegimm := (decode_of_regimm (by decide)).trans (by decide)
  refine ⟨?_, ?_, ?_, ?_, ?_, ?_, ?_, ?_, ?_, ?_, hadd, hregimm⟩
  all_goals exact decode_of_encode_eq (by decide)

end Sys2Proof
end
